-- ==== Sys2Proof/Word.lean ====
section
/-! DEFINITION. The two word types of the machine (spec 00, R6 to R8). -/

namespace Sys2Proof

/-- A u8: DATA_WIDTH is 8 bits (R6). -/
abbrev Byte := BitVec 8

/-- A u16: ADDR_WIDTH is 16 bits (R6). -/
abbrev Word := BitVec 16

end Sys2Proof
end

