-- ==== Sys2Proof/Config.lean ====
section
/-! DEFINITION. What is fixed for a run (spec 00, R6): the implementation parameters with the spec's defaults,
the sizes of the backing stores, and the one free value, the external PPU's answers. -/

namespace Sys2Proof

/-- ROM_WRITE_POLICY (R6, R50): what a write to 0x8000 to 0xFFFF does. -/
inductive RomWritePolicy where
  /-- the write raises RomWrite: the default (92 D3) -/
  | fault
  /-- the write changes nothing -/
  | ignore
  deriving DecidableEq, Repr

/-- RESET_PC_MODE (R6, R281): where PC comes from at reset. -/
inductive ResetPcMode where
  /-- PC is the given address and nothing is read -/
  | fixed (a : Word)
  /-- PC is Read16(0xFFFC) -/
  | vector
  deriving DecidableEq, Repr

/-- The parameters of R6 that are plain values. The step reads the first two, reset the last two. -/
structure Params where
  /-- PRG_UPPER_BASE (R47) -/
  prgUpperBase : Nat
  /-- ROM_WRITE_POLICY (R50) -/
  romWritePolicy : RomWritePolicy
  /-- RESET_PC_MODE (R281) -/
  resetPcMode : ResetPcMode
  /-- CYCLES_AT_RESET (R282), as wide as the counter (92 D6) -/
  cyclesAtReset : BitVec 64
  deriving DecidableEq, Repr

/-- The defaults the spec decided (R6; 92 D3 to D6). -/
def Params.default : Params where
  prgUpperBase := 0x0000
  romWritePolicy := .fault
  resetPcMode := .fixed 0xC000
  cyclesAtReset := 7

/-- RAM_SIZE (R6, R33). -/
def Config.ramSize : Nat := 0x800

/-- APU_REG_COUNT (R6, R34). -/
def Config.apuSize : Nat := 24

/-- One access of the block to a PPU register (R44, R56). `cycles` is the cycle counter at the access: every access of a
step comes after the ticks of the earlier steps and before its own (R288), so it places the access among the ticks. -/
inductive PpuEvent where
  /-- PpuRead(reg) was answered with `value` -/
  | read (cycles : BitVec 64) (reg : BitVec 3) (value : Byte)
  /-- PpuWrite(reg, value) -/
  | write (cycles : BitVec 64) (reg : BitVec 3) (value : Byte)
  deriving DecidableEq, Repr

/-- PPU_ORACLE (R6, R44; 92 D9): the byte the external PPU answers for a register. DESIGN CHOICE (log entry 3), safe for one run: a free
value with no body, applied to every earlier PPU access, the cycle count (which fixes the ticks so far) and the register.
Each read lengthens the history it is applied to, so each is a fresh draw (R56). -/
opaque Config.ppuOracle (history : List PpuEvent) (cycles : BitVec 64) (reg : BitVec 3) : Byte

end Sys2Proof
end

