-- ==== Sys2Proof/Syntax.lean ====
section
/-! DEFINITION. Instructions as data: the operand formats (spec 30, R71), the access classes (R80, R115), the attributes of an
opcode-table row (R73, R80), and one constructor of Instr for each row of spec/opcode_table.json. -/

namespace Sys2Proof

/-- The mnemonics of spec/opcode_table.json, spelt as it spells them. UNIMPLEMENTED names the 25 bytes of R76. -/
inductive Mnemonic where
  | ADC | AND | ASL | BCC | BCS | BEQ | BIT | BMI | BNE | BPL | BRK | BVC
  | BVS | CLC | CLD | CLI | CLV | CMP | CPX | CPY | DCP | DEC | DEX | DEY
  | EOR | INC | INX | INY | ISB | JMP | JSR | LAX | LDA | LDX | LDY | LSR
  | NOP | ORA | PHA | PHP | PLA | PLP | RLA | ROL | ROR | RRA | RTI | RTS
  | SAX | SBC | SEC | SED | SEI | SLO | SRE | STA | STX | STY | TAX | TAY
  | TSX | TXA | TXS | TYA
  | UNIMPLEMENTED
  deriving DecidableEq, Repr

/-- The thirteen formats of R71, each with its assembled operand (R72): `nn` is the byte after the opcode, `a` the
little-endian 16-bit operand. -/
inductive Operand where
  /-- Implicit, no operand -/
  | imp
  /-- Accumulator, the register A -/
  | acc
  /-- Immediate, the value nn -/
  | imm (nn : Byte)
  /-- Zero page, address nn -/
  | zp (nn : Byte)
  /-- Zero page,X -/
  | zpx (nn : Byte)
  /-- Zero page,Y -/
  | zpy (nn : Byte)
  /-- Relative, signed displacement nn -/
  | rel (nn : Byte)
  /-- Absolute, address a -/
  | abs (a : Word)
  /-- Absolute,X -/
  | absx (a : Word)
  /-- Absolute,Y -/
  | absy (a : Word)
  /-- Indirect, pointer address a (JMP only) -/
  | ind (a : Word)
  /-- Indexed indirect (X) -/
  | indx (nn : Byte)
  /-- Indirect indexed (Y) -/
  | indy (nn : Byte)
  deriving DecidableEq, Repr

/-- The access classes of R80, R115. -/
inductive AccessClass where
  | none | register | immediate | read | write | rmw | jump
  deriving DecidableEq, Repr

/-- The attributes of one row of the opcode table (R73, R80). The length, the page-cross attribute and the branch attribute
follow from the operand's format and the class (R70, R80). -/
structure Row where
  opcode : Byte
  mnemonic : Mnemonic
  operand : Operand
  /-- base_cycles; 0 on the rows of R76, which have none -/
  cycles : Nat
  access : AccessClass
  official : Bool
  deriving DecidableEq, Repr

/-- One constructor for each row of spec/opcode_table.json, those with operand bytes first, each part in opcode order. A name is the mnemonic and the mode; where two
rows share both, the opcode byte is added. -/
inductive Instr where
  /-- 0x01 ORA indx, R166 -/
  | oraIndx (nn : Byte)
  /-- 0x03 SLO indx, R238 -/
  | sloIndx (nn : Byte)
  /-- 0x04 NOP zp, R232 -/
  | nopZp04 (nn : Byte)
  /-- 0x05 ORA zp, R166 -/
  | oraZp (nn : Byte)
  /-- 0x06 ASL zp, R192 -/
  | aslZp (nn : Byte)
  /-- 0x07 SLO zp, R238 -/
  | sloZp (nn : Byte)
  /-- 0x09 ORA imm, R166 -/
  | oraImm (nn : Byte)
  /-- 0x0C NOP abs, R232 -/
  | nopAbs (a : Word)
  /-- 0x0D ORA abs, R166 -/
  | oraAbs (a : Word)
  /-- 0x0E ASL abs, R192 -/
  | aslAbs (a : Word)
  /-- 0x0F SLO abs, R238 -/
  | sloAbs (a : Word)
  /-- 0x10 BPL rel, R206 -/
  | bpl (nn : Byte)
  /-- 0x11 ORA indy, R166 -/
  | oraIndy (nn : Byte)
  /-- 0x13 SLO indy, R238 -/
  | sloIndy (nn : Byte)
  /-- 0x14 NOP zpx, R232 -/
  | nopZpx14 (nn : Byte)
  /-- 0x15 ORA zpx, R166 -/
  | oraZpx (nn : Byte)
  /-- 0x16 ASL zpx, R192 -/
  | aslZpx (nn : Byte)
  /-- 0x17 SLO zpx, R238 -/
  | sloZpx (nn : Byte)
  /-- 0x19 ORA absy, R166 -/
  | oraAbsy (a : Word)
  /-- 0x1B SLO absy, R238 -/
  | sloAbsy (a : Word)
  /-- 0x1C NOP absx, R232 -/
  | nopAbsx1C (a : Word)
  /-- 0x1D ORA absx, R166 -/
  | oraAbsx (a : Word)
  /-- 0x1E ASL absx, R192 -/
  | aslAbsx (a : Word)
  /-- 0x1F SLO absx, R238 -/
  | sloAbsx (a : Word)
  /-- 0x20 JSR abs, R210 -/
  | jsr (a : Word)
  /-- 0x21 AND indx, R165 -/
  | andIndx (nn : Byte)
  /-- 0x23 RLA indx, R239 -/
  | rlaIndx (nn : Byte)
  /-- 0x24 BIT zp, R168 -/
  | bitZp (nn : Byte)
  /-- 0x25 AND zp, R165 -/
  | andZp (nn : Byte)
  /-- 0x26 ROL zp, R194 -/
  | rolZp (nn : Byte)
  /-- 0x27 RLA zp, R239 -/
  | rlaZp (nn : Byte)
  /-- 0x29 AND imm, R165 -/
  | andImm (nn : Byte)
  /-- 0x2C BIT abs, R168 -/
  | bitAbs (a : Word)
  /-- 0x2D AND abs, R165 -/
  | andAbs (a : Word)
  /-- 0x2E ROL abs, R194 -/
  | rolAbs (a : Word)
  /-- 0x2F RLA abs, R239 -/
  | rlaAbs (a : Word)
  /-- 0x30 BMI rel, R205 -/
  | bmi (nn : Byte)
  /-- 0x31 AND indy, R165 -/
  | andIndy (nn : Byte)
  /-- 0x33 RLA indy, R239 -/
  | rlaIndy (nn : Byte)
  /-- 0x34 NOP zpx, R232 -/
  | nopZpx34 (nn : Byte)
  /-- 0x35 AND zpx, R165 -/
  | andZpx (nn : Byte)
  /-- 0x36 ROL zpx, R194 -/
  | rolZpx (nn : Byte)
  /-- 0x37 RLA zpx, R239 -/
  | rlaZpx (nn : Byte)
  /-- 0x39 AND absy, R165 -/
  | andAbsy (a : Word)
  /-- 0x3B RLA absy, R239 -/
  | rlaAbsy (a : Word)
  /-- 0x3C NOP absx, R232 -/
  | nopAbsx3C (a : Word)
  /-- 0x3D AND absx, R165 -/
  | andAbsx (a : Word)
  /-- 0x3E ROL absx, R194 -/
  | rolAbsx (a : Word)
  /-- 0x3F RLA absx, R239 -/
  | rlaAbsx (a : Word)
  /-- 0x41 EOR indx, R167 -/
  | eorIndx (nn : Byte)
  /-- 0x43 SRE indx, R240 -/
  | sreIndx (nn : Byte)
  /-- 0x44 NOP zp, R232 -/
  | nopZp44 (nn : Byte)
  /-- 0x45 EOR zp, R167 -/
  | eorZp (nn : Byte)
  /-- 0x46 LSR zp, R193 -/
  | lsrZp (nn : Byte)
  /-- 0x47 SRE zp, R240 -/
  | sreZp (nn : Byte)
  /-- 0x49 EOR imm, R167 -/
  | eorImm (nn : Byte)
  /-- 0x4C JMP abs, R209 -/
  | jmpAbs (a : Word)
  /-- 0x4D EOR abs, R167 -/
  | eorAbs (a : Word)
  /-- 0x4E LSR abs, R193 -/
  | lsrAbs (a : Word)
  /-- 0x4F SRE abs, R240 -/
  | sreAbs (a : Word)
  /-- 0x50 BVC rel, R207 -/
  | bvc (nn : Byte)
  /-- 0x51 EOR indy, R167 -/
  | eorIndy (nn : Byte)
  /-- 0x53 SRE indy, R240 -/
  | sreIndy (nn : Byte)
  /-- 0x54 NOP zpx, R232 -/
  | nopZpx54 (nn : Byte)
  /-- 0x55 EOR zpx, R167 -/
  | eorZpx (nn : Byte)
  /-- 0x56 LSR zpx, R193 -/
  | lsrZpx (nn : Byte)
  /-- 0x57 SRE zpx, R240 -/
  | sreZpx (nn : Byte)
  /-- 0x59 EOR absy, R167 -/
  | eorAbsy (a : Word)
  /-- 0x5B SRE absy, R240 -/
  | sreAbsy (a : Word)
  /-- 0x5C NOP absx, R232 -/
  | nopAbsx5C (a : Word)
  /-- 0x5D EOR absx, R167 -/
  | eorAbsx (a : Word)
  /-- 0x5E LSR absx, R193 -/
  | lsrAbsx (a : Word)
  /-- 0x5F SRE absx, R240 -/
  | sreAbsx (a : Word)
  /-- 0x61 ADC indx, R163 -/
  | adcIndx (nn : Byte)
  /-- 0x63 RRA indx, R241 -/
  | rraIndx (nn : Byte)
  /-- 0x64 NOP zp, R232 -/
  | nopZp64 (nn : Byte)
  /-- 0x65 ADC zp, R163 -/
  | adcZp (nn : Byte)
  /-- 0x66 ROR zp, R195 -/
  | rorZp (nn : Byte)
  /-- 0x67 RRA zp, R241 -/
  | rraZp (nn : Byte)
  /-- 0x69 ADC imm, R163 -/
  | adcImm (nn : Byte)
  /-- 0x6C JMP ind, R209 -/
  | jmpInd (a : Word)
  /-- 0x6D ADC abs, R163 -/
  | adcAbs (a : Word)
  /-- 0x6E ROR abs, R195 -/
  | rorAbs (a : Word)
  /-- 0x6F RRA abs, R241 -/
  | rraAbs (a : Word)
  /-- 0x70 BVS rel, R208 -/
  | bvs (nn : Byte)
  /-- 0x71 ADC indy, R163 -/
  | adcIndy (nn : Byte)
  /-- 0x73 RRA indy, R241 -/
  | rraIndy (nn : Byte)
  /-- 0x74 NOP zpx, R232 -/
  | nopZpx74 (nn : Byte)
  /-- 0x75 ADC zpx, R163 -/
  | adcZpx (nn : Byte)
  /-- 0x76 ROR zpx, R195 -/
  | rorZpx (nn : Byte)
  /-- 0x77 RRA zpx, R241 -/
  | rraZpx (nn : Byte)
  /-- 0x79 ADC absy, R163 -/
  | adcAbsy (a : Word)
  /-- 0x7B RRA absy, R241 -/
  | rraAbsy (a : Word)
  /-- 0x7C NOP absx, R232 -/
  | nopAbsx7C (a : Word)
  /-- 0x7D ADC absx, R163 -/
  | adcAbsx (a : Word)
  /-- 0x7E ROR absx, R195 -/
  | rorAbsx (a : Word)
  /-- 0x7F RRA absx, R241 -/
  | rraAbsx (a : Word)
  /-- 0x80 NOP imm, R232 -/
  | nopImm80 (nn : Byte)
  /-- 0x81 STA indx, R134 -/
  | staIndx (nn : Byte)
  /-- 0x82 NOP imm, R232 -/
  | nopImm82 (nn : Byte)
  /-- 0x83 SAX indx, R234 -/
  | saxIndx (nn : Byte)
  /-- 0x84 STY zp, R136 -/
  | styZp (nn : Byte)
  /-- 0x85 STA zp, R134 -/
  | staZp (nn : Byte)
  /-- 0x86 STX zp, R135 -/
  | stxZp (nn : Byte)
  /-- 0x87 SAX zp, R234 -/
  | saxZp (nn : Byte)
  /-- 0x89 NOP imm, R232 -/
  | nopImm89 (nn : Byte)
  /-- 0x8C STY abs, R136 -/
  | styAbs (a : Word)
  /-- 0x8D STA abs, R134 -/
  | staAbs (a : Word)
  /-- 0x8E STX abs, R135 -/
  | stxAbs (a : Word)
  /-- 0x8F SAX abs, R234 -/
  | saxAbs (a : Word)
  /-- 0x90 BCC rel, R201 -/
  | bcc (nn : Byte)
  /-- 0x91 STA indy, R134 -/
  | staIndy (nn : Byte)
  /-- 0x94 STY zpx, R136 -/
  | styZpx (nn : Byte)
  /-- 0x95 STA zpx, R134 -/
  | staZpx (nn : Byte)
  /-- 0x96 STX zpy, R135 -/
  | stxZpy (nn : Byte)
  /-- 0x97 SAX zpy, R234 -/
  | saxZpy (nn : Byte)
  /-- 0x99 STA absy, R134 -/
  | staAbsy (a : Word)
  /-- 0x9D STA absx, R134 -/
  | staAbsx (a : Word)
  /-- 0xA0 LDY imm, R133 -/
  | ldyImm (nn : Byte)
  /-- 0xA1 LDA indx, R131 -/
  | ldaIndx (nn : Byte)
  /-- 0xA2 LDX imm, R132 -/
  | ldxImm (nn : Byte)
  /-- 0xA3 LAX indx, R233 -/
  | laxIndx (nn : Byte)
  /-- 0xA4 LDY zp, R133 -/
  | ldyZp (nn : Byte)
  /-- 0xA5 LDA zp, R131 -/
  | ldaZp (nn : Byte)
  /-- 0xA6 LDX zp, R132 -/
  | ldxZp (nn : Byte)
  /-- 0xA7 LAX zp, R233 -/
  | laxZp (nn : Byte)
  /-- 0xA9 LDA imm, R131 -/
  | ldaImm (nn : Byte)
  /-- 0xAC LDY abs, R133 -/
  | ldyAbs (a : Word)
  /-- 0xAD LDA abs, R131 -/
  | ldaAbs (a : Word)
  /-- 0xAE LDX abs, R132 -/
  | ldxAbs (a : Word)
  /-- 0xAF LAX abs, R233 -/
  | laxAbs (a : Word)
  /-- 0xB0 BCS rel, R202 -/
  | bcs (nn : Byte)
  /-- 0xB1 LDA indy, R131 -/
  | ldaIndy (nn : Byte)
  /-- 0xB3 LAX indy, R233 -/
  | laxIndy (nn : Byte)
  /-- 0xB4 LDY zpx, R133 -/
  | ldyZpx (nn : Byte)
  /-- 0xB5 LDA zpx, R131 -/
  | ldaZpx (nn : Byte)
  /-- 0xB6 LDX zpy, R132 -/
  | ldxZpy (nn : Byte)
  /-- 0xB7 LAX zpy, R233 -/
  | laxZpy (nn : Byte)
  /-- 0xB9 LDA absy, R131 -/
  | ldaAbsy (a : Word)
  /-- 0xBC LDY absx, R133 -/
  | ldyAbsx (a : Word)
  /-- 0xBD LDA absx, R131 -/
  | ldaAbsx (a : Word)
  /-- 0xBE LDX absy, R132 -/
  | ldxAbsy (a : Word)
  /-- 0xBF LAX absy, R233 -/
  | laxAbsy (a : Word)
  /-- 0xC0 CPY imm, R171 -/
  | cpyImm (nn : Byte)
  /-- 0xC1 CMP indx, R169 -/
  | cmpIndx (nn : Byte)
  /-- 0xC2 NOP imm, R232 -/
  | nopImmC2 (nn : Byte)
  /-- 0xC3 DCP indx, R236 -/
  | dcpIndx (nn : Byte)
  /-- 0xC4 CPY zp, R171 -/
  | cpyZp (nn : Byte)
  /-- 0xC5 CMP zp, R169 -/
  | cmpZp (nn : Byte)
  /-- 0xC6 DEC zp, R173 -/
  | decZp (nn : Byte)
  /-- 0xC7 DCP zp, R236 -/
  | dcpZp (nn : Byte)
  /-- 0xC9 CMP imm, R169 -/
  | cmpImm (nn : Byte)
  /-- 0xCC CPY abs, R171 -/
  | cpyAbs (a : Word)
  /-- 0xCD CMP abs, R169 -/
  | cmpAbs (a : Word)
  /-- 0xCE DEC abs, R173 -/
  | decAbs (a : Word)
  /-- 0xCF DCP abs, R236 -/
  | dcpAbs (a : Word)
  /-- 0xD0 BNE rel, R204 -/
  | bne (nn : Byte)
  /-- 0xD1 CMP indy, R169 -/
  | cmpIndy (nn : Byte)
  /-- 0xD3 DCP indy, R236 -/
  | dcpIndy (nn : Byte)
  /-- 0xD4 NOP zpx, R232 -/
  | nopZpxD4 (nn : Byte)
  /-- 0xD5 CMP zpx, R169 -/
  | cmpZpx (nn : Byte)
  /-- 0xD6 DEC zpx, R173 -/
  | decZpx (nn : Byte)
  /-- 0xD7 DCP zpx, R236 -/
  | dcpZpx (nn : Byte)
  /-- 0xD9 CMP absy, R169 -/
  | cmpAbsy (a : Word)
  /-- 0xDB DCP absy, R236 -/
  | dcpAbsy (a : Word)
  /-- 0xDC NOP absx, R232 -/
  | nopAbsxDC (a : Word)
  /-- 0xDD CMP absx, R169 -/
  | cmpAbsx (a : Word)
  /-- 0xDE DEC absx, R173 -/
  | decAbsx (a : Word)
  /-- 0xDF DCP absx, R236 -/
  | dcpAbsx (a : Word)
  /-- 0xE0 CPX imm, R170 -/
  | cpxImm (nn : Byte)
  /-- 0xE1 SBC indx, R164 -/
  | sbcIndx (nn : Byte)
  /-- 0xE2 NOP imm, R232 -/
  | nopImmE2 (nn : Byte)
  /-- 0xE3 ISB indx, R237 -/
  | isbIndx (nn : Byte)
  /-- 0xE4 CPX zp, R170 -/
  | cpxZp (nn : Byte)
  /-- 0xE5 SBC zp, R164 -/
  | sbcZp (nn : Byte)
  /-- 0xE6 INC zp, R172 -/
  | incZp (nn : Byte)
  /-- 0xE7 ISB zp, R237 -/
  | isbZp (nn : Byte)
  /-- 0xE9 SBC imm, R164 -/
  | sbcImm (nn : Byte)
  /-- 0xEB SBC imm, R235 -/
  | sbcImmEB (nn : Byte)
  /-- 0xEC CPX abs, R170 -/
  | cpxAbs (a : Word)
  /-- 0xED SBC abs, R164 -/
  | sbcAbs (a : Word)
  /-- 0xEE INC abs, R172 -/
  | incAbs (a : Word)
  /-- 0xEF ISB abs, R237 -/
  | isbAbs (a : Word)
  /-- 0xF0 BEQ rel, R203 -/
  | beq (nn : Byte)
  /-- 0xF1 SBC indy, R164 -/
  | sbcIndy (nn : Byte)
  /-- 0xF3 ISB indy, R237 -/
  | isbIndy (nn : Byte)
  /-- 0xF4 NOP zpx, R232 -/
  | nopZpxF4 (nn : Byte)
  /-- 0xF5 SBC zpx, R164 -/
  | sbcZpx (nn : Byte)
  /-- 0xF6 INC zpx, R172 -/
  | incZpx (nn : Byte)
  /-- 0xF7 ISB zpx, R237 -/
  | isbZpx (nn : Byte)
  /-- 0xF9 SBC absy, R164 -/
  | sbcAbsy (a : Word)
  /-- 0xFB ISB absy, R237 -/
  | isbAbsy (a : Word)
  /-- 0xFC NOP absx, R232 -/
  | nopAbsxFC (a : Word)
  /-- 0xFD SBC absx, R164 -/
  | sbcAbsx (a : Word)
  /-- 0xFE INC absx, R172 -/
  | incAbsx (a : Word)
  /-- 0xFF ISB absx, R237 -/
  | isbAbsx (a : Word)
  /-- 0x00 BRK imp, R213 -/
  | brk
  /-- 0x02 UNIMPLEMENTED none, R242 -/
  | unimplemented02
  /-- 0x08 PHP imp, R151 -/
  | php
  /-- 0x0A ASL acc, R192 -/
  | aslAcc
  /-- 0x0B UNIMPLEMENTED none, R242 -/
  | unimplemented0B
  /-- 0x12 UNIMPLEMENTED none, R242 -/
  | unimplemented12
  /-- 0x18 CLC imp, R220 -/
  | clc
  /-- 0x1A NOP imp, R231 -/
  | nop1A
  /-- 0x22 UNIMPLEMENTED none, R242 -/
  | unimplemented22
  /-- 0x28 PLP imp, R153 -/
  | plp
  /-- 0x2A ROL acc, R194 -/
  | rolAcc
  /-- 0x2B UNIMPLEMENTED none, R242 -/
  | unimplemented2B
  /-- 0x32 UNIMPLEMENTED none, R242 -/
  | unimplemented32
  /-- 0x38 SEC imp, R221 -/
  | sec
  /-- 0x3A NOP imp, R231 -/
  | nop3A
  /-- 0x40 RTI imp, R212 -/
  | rti
  /-- 0x42 UNIMPLEMENTED none, R242 -/
  | unimplemented42
  /-- 0x48 PHA imp, R150 -/
  | pha
  /-- 0x4A LSR acc, R193 -/
  | lsrAcc
  /-- 0x4B UNIMPLEMENTED none, R242 -/
  | unimplemented4B
  /-- 0x52 UNIMPLEMENTED none, R242 -/
  | unimplemented52
  /-- 0x58 CLI imp, R222 -/
  | cli
  /-- 0x5A NOP imp, R231 -/
  | nop5A
  /-- 0x60 RTS imp, R211 -/
  | rts
  /-- 0x62 UNIMPLEMENTED none, R242 -/
  | unimplemented62
  /-- 0x68 PLA imp, R152 -/
  | pla
  /-- 0x6A ROR acc, R195 -/
  | rorAcc
  /-- 0x6B UNIMPLEMENTED none, R242 -/
  | unimplemented6B
  /-- 0x72 UNIMPLEMENTED none, R242 -/
  | unimplemented72
  /-- 0x78 SEI imp, R223 -/
  | sei
  /-- 0x7A NOP imp, R231 -/
  | nop7A
  /-- 0x88 DEY imp, R177 -/
  | dey
  /-- 0x8A TXA imp, R139 -/
  | txa
  /-- 0x8B UNIMPLEMENTED none, R242 -/
  | unimplemented8B
  /-- 0x92 UNIMPLEMENTED none, R242 -/
  | unimplemented92
  /-- 0x93 UNIMPLEMENTED none, R242 -/
  | unimplemented93
  /-- 0x98 TYA imp, R140 -/
  | tya
  /-- 0x9A TXS imp, R142 -/
  | txs
  /-- 0x9B UNIMPLEMENTED none, R242 -/
  | unimplemented9B
  /-- 0x9C UNIMPLEMENTED none, R242 -/
  | unimplemented9C
  /-- 0x9E UNIMPLEMENTED none, R242 -/
  | unimplemented9E
  /-- 0x9F UNIMPLEMENTED none, R242 -/
  | unimplemented9F
  /-- 0xA8 TAY imp, R138 -/
  | tay
  /-- 0xAA TAX imp, R137 -/
  | tax
  /-- 0xAB UNIMPLEMENTED none, R242 -/
  | unimplementedAB
  /-- 0xB2 UNIMPLEMENTED none, R242 -/
  | unimplementedB2
  /-- 0xB8 CLV imp, R226 -/
  | clv
  /-- 0xBA TSX imp, R141 -/
  | tsx
  /-- 0xBB UNIMPLEMENTED none, R242 -/
  | unimplementedBB
  /-- 0xC8 INY imp, R175 -/
  | iny
  /-- 0xCA DEX imp, R176 -/
  | dex
  /-- 0xCB UNIMPLEMENTED none, R242 -/
  | unimplementedCB
  /-- 0xD2 UNIMPLEMENTED none, R242 -/
  | unimplementedD2
  /-- 0xD8 CLD imp, R224 -/
  | cld
  /-- 0xDA NOP imp, R231 -/
  | nopDA
  /-- 0xE8 INX imp, R174 -/
  | inx
  /-- 0xEA NOP imp, R227 -/
  | nop
  /-- 0xF2 UNIMPLEMENTED none, R242 -/
  | unimplementedF2
  /-- 0xF8 SED imp, R225 -/
  | sed
  /-- 0xFA NOP imp, R231 -/
  | nopFA
  deriving DecidableEq, Repr

end Sys2Proof
end

