-- ==== Sys2Proof/WellFormed.lean ====
section
/-! DEFINITION. The checks a row of the opcode table must meet (R80, R115, R120): each mnemonic stands only with the modes its
own rule lists, each access class only with the modes it can use, and an implemented row costs 2 to 8 cycles. -/

namespace Sys2Proof

/-- A mode without its operand value: the tags of R71. -/
inductive Mode where
  | imp | acc | imm | zp | zpx | zpy | rel | abs | absx | absy | ind | indx | indy
  deriving DecidableEq, Repr

/-- The mode of an operand (R71). -/
def Operand.mode : Operand → Mode
  | .imp => .imp
  | .acc => .acc
  | .imm _ => .imm
  | .zp _ => .zp
  | .zpx _ => .zpx
  | .zpy _ => .zpy
  | .rel _ => .rel
  | .abs _ => .abs
  | .absx _ => .absx
  | .absy _ => .absy
  | .ind _ => .ind
  | .indx _ => .indx
  | .indy _ => .indy

/-- The modes each instruction rule lists under Encoding (42 to 48). -/
def Mnemonic.modes : Mnemonic → List Mode
  | .LDA | .ADC | .SBC | .AND | .ORA | .EOR | .CMP => [.imm, .zp, .zpx, .abs, .absx, .absy, .indx, .indy]
  | .LDX => [.imm, .zp, .zpy, .abs, .absy]
  | .LDY => [.imm, .zp, .zpx, .abs, .absx]
  | .STA => [.zp, .zpx, .abs, .absx, .absy, .indx, .indy]
  | .STX => [.zp, .zpy, .abs]
  | .STY => [.zp, .zpx, .abs]
  | .BIT => [.zp, .abs]
  | .CPX | .CPY => [.imm, .zp, .abs]
  | .INC | .DEC => [.zp, .zpx, .abs, .absx]
  | .ASL | .LSR | .ROL | .ROR => [.acc, .zp, .zpx, .abs, .absx]
  | .BCC | .BCS | .BEQ | .BNE | .BMI | .BPL | .BVC | .BVS => [.rel]
  | .JMP => [.abs, .ind]
  | .JSR => [.abs]
  | .NOP => [.imp, .imm, .zp, .zpx, .abs, .absx]
  | .LAX => [.zp, .zpy, .abs, .absy, .indx, .indy]
  | .SAX => [.zp, .zpy, .abs, .indx]
  | .DCP | .ISB | .SLO | .RLA | .SRE | .RRA => [.zp, .zpx, .abs, .absx, .absy, .indx, .indy]
  | .TAX | .TAY | .TXA | .TYA | .TSX | .TXS | .PHA | .PHP | .PLA | .PLP | .INX | .INY | .DEX | .DEY => [.imp]
  | .RTS | .RTI | .BRK | .CLC | .SEC | .CLI | .SEI | .CLD | .SED | .CLV => [.imp]
  | .UNIMPLEMENTED => []

/-- The modes each access class can use (R115). -/
def AccessClass.modes : AccessClass → List Mode
  | .none => [.imp, .rel]
  | .register => [.acc]
  | .immediate => [.imm]
  | .read => [.zp, .zpx, .zpy, .abs, .absx, .absy, .indx, .indy]
  | .write => [.zp, .zpx, .zpy, .abs, .absx, .absy, .indx, .indy]
  | .rmw => [.zp, .zpx, .abs, .absx, .absy, .indx, .indy]
  | .jump => [.abs, .ind]

/-- Check 1: the mnemonic's rule defines the row's mode (R120). -/
def Row.modeDefined (r : Row) : Bool := r.mnemonic.modes.contains r.operand.mode

/-- Check 2: the access class can use the row's mode (R115). -/
def Row.classFits (r : Row) : Bool := r.access.modes.contains r.operand.mode

/-- Check 3: the base cost is in the range of R117. -/
def Row.costInRange (r : Row) : Bool := 2 ≤ r.cycles && r.cycles ≤ 8

/-- A row is implemented unless it is one of the 25 of R76. -/
def Row.implemented (r : Row) : Bool := r.mnemonic != .UNIMPLEMENTED

/-- A row is well-formed when it meets the three checks. -/
def Row.wf (r : Row) : Bool := r.modeDefined && r.classFits && r.costInRange

end Sys2Proof
end

