-- ==== Sys2Proof/Decode.lean ====
section
/-! DEFINITION. The opcode table as data (spec 30): the attributes of every row, the decoder, which is a lookup of the opcode
byte in a 256-entry array (R73), and the encoder. The byte helpers of R7, R8 and R72 stand here too. -/

namespace Sys2Proof

/-- lo(v): the low byte (R8). -/
def loByte (w : Word) : Byte := w.setWidth 8

/-- hi(v): the high byte (R8). -/
def hiByte (w : Word) : Byte := (w >>> 8).setWidth 8

/-- cat(h, l): a u16 from two bytes, high byte first (R8). -/
def cat (h l : Byte) : Word := h ++ l

/-- zext_16 (R8). -/
def zext16 (b : Byte) : Word := b.setWidth 16

/-- sext_16 (R8): two's-complement sign extension. -/
def sext16 (b : Byte) : Word := b.signExtend 16

/-- The operand bytes in memory order, low byte first (R71, R72). -/
def Operand.bytes : Operand → List Byte
  | .imp | .acc => []
  | .imm nn | .zp nn | .zpx nn | .zpy nn | .rel nn | .indx nn | .indy nn => [nn]
  | .abs a | .absx a | .absy a | .ind a => [loByte a, hiByte a]

/-- The length of an instruction with this operand, 1 to 3 bytes (R70, R71). -/
def Operand.length : Operand → Nat
  | .imp | .acc => 1
  | .imm _ | .zp _ | .zpx _ | .zpy _ | .rel _ | .indx _ | .indy _ => 2
  | .abs _ | .absx _ | .absy _ | .ind _ => 3

/-- page_cross_penalty (R80 b): class read with mode absx, absy or indy. -/
def Row.pagePenalty (r : Row) : Bool :=
  r.access == .read && (r.operand.mode == .absx || r.operand.mode == .absy || r.operand.mode == .indy)

/-- branch_penalty (R80 c): the eight relative branches. -/
def Row.branchPenalty (r : Row) : Bool := r.operand.mode == .rel

/-- The row of each instruction: opcode, mnemonic, operand, base cycles, access class, official (30 section 5). -/
def Instr.row : Instr → Row
  | .brk => ⟨0x00, .BRK, .imp, 7, .none, true⟩
  | .oraIndx nn => ⟨0x01, .ORA, .indx nn, 6, .read, true⟩
  | .unimplemented02 => ⟨0x02, .UNIMPLEMENTED, .imp, 0, .none, false⟩
  | .sloIndx nn => ⟨0x03, .SLO, .indx nn, 8, .rmw, false⟩
  | .nopZp04 nn => ⟨0x04, .NOP, .zp nn, 3, .read, false⟩
  | .oraZp nn => ⟨0x05, .ORA, .zp nn, 3, .read, true⟩
  | .aslZp nn => ⟨0x06, .ASL, .zp nn, 5, .rmw, true⟩
  | .sloZp nn => ⟨0x07, .SLO, .zp nn, 5, .rmw, false⟩
  | .php => ⟨0x08, .PHP, .imp, 3, .none, true⟩
  | .oraImm nn => ⟨0x09, .ORA, .imm nn, 2, .immediate, true⟩
  | .aslAcc => ⟨0x0A, .ASL, .acc, 2, .register, true⟩
  | .unimplemented0B => ⟨0x0B, .UNIMPLEMENTED, .imp, 0, .none, false⟩
  | .nopAbs a => ⟨0x0C, .NOP, .abs a, 4, .read, false⟩
  | .oraAbs a => ⟨0x0D, .ORA, .abs a, 4, .read, true⟩
  | .aslAbs a => ⟨0x0E, .ASL, .abs a, 6, .rmw, true⟩
  | .sloAbs a => ⟨0x0F, .SLO, .abs a, 6, .rmw, false⟩
  | .bpl nn => ⟨0x10, .BPL, .rel nn, 2, .none, true⟩
  | .oraIndy nn => ⟨0x11, .ORA, .indy nn, 5, .read, true⟩
  | .unimplemented12 => ⟨0x12, .UNIMPLEMENTED, .imp, 0, .none, false⟩
  | .sloIndy nn => ⟨0x13, .SLO, .indy nn, 8, .rmw, false⟩
  | .nopZpx14 nn => ⟨0x14, .NOP, .zpx nn, 4, .read, false⟩
  | .oraZpx nn => ⟨0x15, .ORA, .zpx nn, 4, .read, true⟩
  | .aslZpx nn => ⟨0x16, .ASL, .zpx nn, 6, .rmw, true⟩
  | .sloZpx nn => ⟨0x17, .SLO, .zpx nn, 6, .rmw, false⟩
  | .clc => ⟨0x18, .CLC, .imp, 2, .none, true⟩
  | .oraAbsy a => ⟨0x19, .ORA, .absy a, 4, .read, true⟩
  | .nop1A => ⟨0x1A, .NOP, .imp, 2, .none, false⟩
  | .sloAbsy a => ⟨0x1B, .SLO, .absy a, 7, .rmw, false⟩
  | .nopAbsx1C a => ⟨0x1C, .NOP, .absx a, 4, .read, false⟩
  | .oraAbsx a => ⟨0x1D, .ORA, .absx a, 4, .read, true⟩
  | .aslAbsx a => ⟨0x1E, .ASL, .absx a, 7, .rmw, true⟩
  | .sloAbsx a => ⟨0x1F, .SLO, .absx a, 7, .rmw, false⟩
  | .jsr a => ⟨0x20, .JSR, .abs a, 6, .jump, true⟩
  | .andIndx nn => ⟨0x21, .AND, .indx nn, 6, .read, true⟩
  | .unimplemented22 => ⟨0x22, .UNIMPLEMENTED, .imp, 0, .none, false⟩
  | .rlaIndx nn => ⟨0x23, .RLA, .indx nn, 8, .rmw, false⟩
  | .bitZp nn => ⟨0x24, .BIT, .zp nn, 3, .read, true⟩
  | .andZp nn => ⟨0x25, .AND, .zp nn, 3, .read, true⟩
  | .rolZp nn => ⟨0x26, .ROL, .zp nn, 5, .rmw, true⟩
  | .rlaZp nn => ⟨0x27, .RLA, .zp nn, 5, .rmw, false⟩
  | .plp => ⟨0x28, .PLP, .imp, 4, .none, true⟩
  | .andImm nn => ⟨0x29, .AND, .imm nn, 2, .immediate, true⟩
  | .rolAcc => ⟨0x2A, .ROL, .acc, 2, .register, true⟩
  | .unimplemented2B => ⟨0x2B, .UNIMPLEMENTED, .imp, 0, .none, false⟩
  | .bitAbs a => ⟨0x2C, .BIT, .abs a, 4, .read, true⟩
  | .andAbs a => ⟨0x2D, .AND, .abs a, 4, .read, true⟩
  | .rolAbs a => ⟨0x2E, .ROL, .abs a, 6, .rmw, true⟩
  | .rlaAbs a => ⟨0x2F, .RLA, .abs a, 6, .rmw, false⟩
  | .bmi nn => ⟨0x30, .BMI, .rel nn, 2, .none, true⟩
  | .andIndy nn => ⟨0x31, .AND, .indy nn, 5, .read, true⟩
  | .unimplemented32 => ⟨0x32, .UNIMPLEMENTED, .imp, 0, .none, false⟩
  | .rlaIndy nn => ⟨0x33, .RLA, .indy nn, 8, .rmw, false⟩
  | .nopZpx34 nn => ⟨0x34, .NOP, .zpx nn, 4, .read, false⟩
  | .andZpx nn => ⟨0x35, .AND, .zpx nn, 4, .read, true⟩
  | .rolZpx nn => ⟨0x36, .ROL, .zpx nn, 6, .rmw, true⟩
  | .rlaZpx nn => ⟨0x37, .RLA, .zpx nn, 6, .rmw, false⟩
  | .sec => ⟨0x38, .SEC, .imp, 2, .none, true⟩
  | .andAbsy a => ⟨0x39, .AND, .absy a, 4, .read, true⟩
  | .nop3A => ⟨0x3A, .NOP, .imp, 2, .none, false⟩
  | .rlaAbsy a => ⟨0x3B, .RLA, .absy a, 7, .rmw, false⟩
  | .nopAbsx3C a => ⟨0x3C, .NOP, .absx a, 4, .read, false⟩
  | .andAbsx a => ⟨0x3D, .AND, .absx a, 4, .read, true⟩
  | .rolAbsx a => ⟨0x3E, .ROL, .absx a, 7, .rmw, true⟩
  | .rlaAbsx a => ⟨0x3F, .RLA, .absx a, 7, .rmw, false⟩
  | .rti => ⟨0x40, .RTI, .imp, 6, .none, true⟩
  | .eorIndx nn => ⟨0x41, .EOR, .indx nn, 6, .read, true⟩
  | .unimplemented42 => ⟨0x42, .UNIMPLEMENTED, .imp, 0, .none, false⟩
  | .sreIndx nn => ⟨0x43, .SRE, .indx nn, 8, .rmw, false⟩
  | .nopZp44 nn => ⟨0x44, .NOP, .zp nn, 3, .read, false⟩
  | .eorZp nn => ⟨0x45, .EOR, .zp nn, 3, .read, true⟩
  | .lsrZp nn => ⟨0x46, .LSR, .zp nn, 5, .rmw, true⟩
  | .sreZp nn => ⟨0x47, .SRE, .zp nn, 5, .rmw, false⟩
  | .pha => ⟨0x48, .PHA, .imp, 3, .none, true⟩
  | .eorImm nn => ⟨0x49, .EOR, .imm nn, 2, .immediate, true⟩
  | .lsrAcc => ⟨0x4A, .LSR, .acc, 2, .register, true⟩
  | .unimplemented4B => ⟨0x4B, .UNIMPLEMENTED, .imp, 0, .none, false⟩
  | .jmpAbs a => ⟨0x4C, .JMP, .abs a, 3, .jump, true⟩
  | .eorAbs a => ⟨0x4D, .EOR, .abs a, 4, .read, true⟩
  | .lsrAbs a => ⟨0x4E, .LSR, .abs a, 6, .rmw, true⟩
  | .sreAbs a => ⟨0x4F, .SRE, .abs a, 6, .rmw, false⟩
  | .bvc nn => ⟨0x50, .BVC, .rel nn, 2, .none, true⟩
  | .eorIndy nn => ⟨0x51, .EOR, .indy nn, 5, .read, true⟩
  | .unimplemented52 => ⟨0x52, .UNIMPLEMENTED, .imp, 0, .none, false⟩
  | .sreIndy nn => ⟨0x53, .SRE, .indy nn, 8, .rmw, false⟩
  | .nopZpx54 nn => ⟨0x54, .NOP, .zpx nn, 4, .read, false⟩
  | .eorZpx nn => ⟨0x55, .EOR, .zpx nn, 4, .read, true⟩
  | .lsrZpx nn => ⟨0x56, .LSR, .zpx nn, 6, .rmw, true⟩
  | .sreZpx nn => ⟨0x57, .SRE, .zpx nn, 6, .rmw, false⟩
  | .cli => ⟨0x58, .CLI, .imp, 2, .none, true⟩
  | .eorAbsy a => ⟨0x59, .EOR, .absy a, 4, .read, true⟩
  | .nop5A => ⟨0x5A, .NOP, .imp, 2, .none, false⟩
  | .sreAbsy a => ⟨0x5B, .SRE, .absy a, 7, .rmw, false⟩
  | .nopAbsx5C a => ⟨0x5C, .NOP, .absx a, 4, .read, false⟩
  | .eorAbsx a => ⟨0x5D, .EOR, .absx a, 4, .read, true⟩
  | .lsrAbsx a => ⟨0x5E, .LSR, .absx a, 7, .rmw, true⟩
  | .sreAbsx a => ⟨0x5F, .SRE, .absx a, 7, .rmw, false⟩
  | .rts => ⟨0x60, .RTS, .imp, 6, .none, true⟩
  | .adcIndx nn => ⟨0x61, .ADC, .indx nn, 6, .read, true⟩
  | .unimplemented62 => ⟨0x62, .UNIMPLEMENTED, .imp, 0, .none, false⟩
  | .rraIndx nn => ⟨0x63, .RRA, .indx nn, 8, .rmw, false⟩
  | .nopZp64 nn => ⟨0x64, .NOP, .zp nn, 3, .read, false⟩
  | .adcZp nn => ⟨0x65, .ADC, .zp nn, 3, .read, true⟩
  | .rorZp nn => ⟨0x66, .ROR, .zp nn, 5, .rmw, true⟩
  | .rraZp nn => ⟨0x67, .RRA, .zp nn, 5, .rmw, false⟩
  | .pla => ⟨0x68, .PLA, .imp, 4, .none, true⟩
  | .adcImm nn => ⟨0x69, .ADC, .imm nn, 2, .immediate, true⟩
  | .rorAcc => ⟨0x6A, .ROR, .acc, 2, .register, true⟩
  | .unimplemented6B => ⟨0x6B, .UNIMPLEMENTED, .imp, 0, .none, false⟩
  | .jmpInd a => ⟨0x6C, .JMP, .ind a, 5, .jump, true⟩
  | .adcAbs a => ⟨0x6D, .ADC, .abs a, 4, .read, true⟩
  | .rorAbs a => ⟨0x6E, .ROR, .abs a, 6, .rmw, true⟩
  | .rraAbs a => ⟨0x6F, .RRA, .abs a, 6, .rmw, false⟩
  | .bvs nn => ⟨0x70, .BVS, .rel nn, 2, .none, true⟩
  | .adcIndy nn => ⟨0x71, .ADC, .indy nn, 5, .read, true⟩
  | .unimplemented72 => ⟨0x72, .UNIMPLEMENTED, .imp, 0, .none, false⟩
  | .rraIndy nn => ⟨0x73, .RRA, .indy nn, 8, .rmw, false⟩
  | .nopZpx74 nn => ⟨0x74, .NOP, .zpx nn, 4, .read, false⟩
  | .adcZpx nn => ⟨0x75, .ADC, .zpx nn, 4, .read, true⟩
  | .rorZpx nn => ⟨0x76, .ROR, .zpx nn, 6, .rmw, true⟩
  | .rraZpx nn => ⟨0x77, .RRA, .zpx nn, 6, .rmw, false⟩
  | .sei => ⟨0x78, .SEI, .imp, 2, .none, true⟩
  | .adcAbsy a => ⟨0x79, .ADC, .absy a, 4, .read, true⟩
  | .nop7A => ⟨0x7A, .NOP, .imp, 2, .none, false⟩
  | .rraAbsy a => ⟨0x7B, .RRA, .absy a, 7, .rmw, false⟩
  | .nopAbsx7C a => ⟨0x7C, .NOP, .absx a, 4, .read, false⟩
  | .adcAbsx a => ⟨0x7D, .ADC, .absx a, 4, .read, true⟩
  | .rorAbsx a => ⟨0x7E, .ROR, .absx a, 7, .rmw, true⟩
  | .rraAbsx a => ⟨0x7F, .RRA, .absx a, 7, .rmw, false⟩
  | .nopImm80 nn => ⟨0x80, .NOP, .imm nn, 2, .immediate, false⟩
  | .staIndx nn => ⟨0x81, .STA, .indx nn, 6, .write, true⟩
  | .nopImm82 nn => ⟨0x82, .NOP, .imm nn, 2, .immediate, false⟩
  | .saxIndx nn => ⟨0x83, .SAX, .indx nn, 6, .write, false⟩
  | .styZp nn => ⟨0x84, .STY, .zp nn, 3, .write, true⟩
  | .staZp nn => ⟨0x85, .STA, .zp nn, 3, .write, true⟩
  | .stxZp nn => ⟨0x86, .STX, .zp nn, 3, .write, true⟩
  | .saxZp nn => ⟨0x87, .SAX, .zp nn, 3, .write, false⟩
  | .dey => ⟨0x88, .DEY, .imp, 2, .none, true⟩
  | .nopImm89 nn => ⟨0x89, .NOP, .imm nn, 2, .immediate, false⟩
  | .txa => ⟨0x8A, .TXA, .imp, 2, .none, true⟩
  | .unimplemented8B => ⟨0x8B, .UNIMPLEMENTED, .imp, 0, .none, false⟩
  | .styAbs a => ⟨0x8C, .STY, .abs a, 4, .write, true⟩
  | .staAbs a => ⟨0x8D, .STA, .abs a, 4, .write, true⟩
  | .stxAbs a => ⟨0x8E, .STX, .abs a, 4, .write, true⟩
  | .saxAbs a => ⟨0x8F, .SAX, .abs a, 4, .write, false⟩
  | .bcc nn => ⟨0x90, .BCC, .rel nn, 2, .none, true⟩
  | .staIndy nn => ⟨0x91, .STA, .indy nn, 6, .write, true⟩
  | .unimplemented92 => ⟨0x92, .UNIMPLEMENTED, .imp, 0, .none, false⟩
  | .unimplemented93 => ⟨0x93, .UNIMPLEMENTED, .imp, 0, .none, false⟩
  | .styZpx nn => ⟨0x94, .STY, .zpx nn, 4, .write, true⟩
  | .staZpx nn => ⟨0x95, .STA, .zpx nn, 4, .write, true⟩
  | .stxZpy nn => ⟨0x96, .STX, .zpy nn, 4, .write, true⟩
  | .saxZpy nn => ⟨0x97, .SAX, .zpy nn, 4, .write, false⟩
  | .tya => ⟨0x98, .TYA, .imp, 2, .none, true⟩
  | .staAbsy a => ⟨0x99, .STA, .absy a, 5, .write, true⟩
  | .txs => ⟨0x9A, .TXS, .imp, 2, .none, true⟩
  | .unimplemented9B => ⟨0x9B, .UNIMPLEMENTED, .imp, 0, .none, false⟩
  | .unimplemented9C => ⟨0x9C, .UNIMPLEMENTED, .imp, 0, .none, false⟩
  | .staAbsx a => ⟨0x9D, .STA, .absx a, 5, .write, true⟩
  | .unimplemented9E => ⟨0x9E, .UNIMPLEMENTED, .imp, 0, .none, false⟩
  | .unimplemented9F => ⟨0x9F, .UNIMPLEMENTED, .imp, 0, .none, false⟩
  | .ldyImm nn => ⟨0xA0, .LDY, .imm nn, 2, .immediate, true⟩
  | .ldaIndx nn => ⟨0xA1, .LDA, .indx nn, 6, .read, true⟩
  | .ldxImm nn => ⟨0xA2, .LDX, .imm nn, 2, .immediate, true⟩
  | .laxIndx nn => ⟨0xA3, .LAX, .indx nn, 6, .read, false⟩
  | .ldyZp nn => ⟨0xA4, .LDY, .zp nn, 3, .read, true⟩
  | .ldaZp nn => ⟨0xA5, .LDA, .zp nn, 3, .read, true⟩
  | .ldxZp nn => ⟨0xA6, .LDX, .zp nn, 3, .read, true⟩
  | .laxZp nn => ⟨0xA7, .LAX, .zp nn, 3, .read, false⟩
  | .tay => ⟨0xA8, .TAY, .imp, 2, .none, true⟩
  | .ldaImm nn => ⟨0xA9, .LDA, .imm nn, 2, .immediate, true⟩
  | .tax => ⟨0xAA, .TAX, .imp, 2, .none, true⟩
  | .unimplementedAB => ⟨0xAB, .UNIMPLEMENTED, .imp, 0, .none, false⟩
  | .ldyAbs a => ⟨0xAC, .LDY, .abs a, 4, .read, true⟩
  | .ldaAbs a => ⟨0xAD, .LDA, .abs a, 4, .read, true⟩
  | .ldxAbs a => ⟨0xAE, .LDX, .abs a, 4, .read, true⟩
  | .laxAbs a => ⟨0xAF, .LAX, .abs a, 4, .read, false⟩
  | .bcs nn => ⟨0xB0, .BCS, .rel nn, 2, .none, true⟩
  | .ldaIndy nn => ⟨0xB1, .LDA, .indy nn, 5, .read, true⟩
  | .unimplementedB2 => ⟨0xB2, .UNIMPLEMENTED, .imp, 0, .none, false⟩
  | .laxIndy nn => ⟨0xB3, .LAX, .indy nn, 5, .read, false⟩
  | .ldyZpx nn => ⟨0xB4, .LDY, .zpx nn, 4, .read, true⟩
  | .ldaZpx nn => ⟨0xB5, .LDA, .zpx nn, 4, .read, true⟩
  | .ldxZpy nn => ⟨0xB6, .LDX, .zpy nn, 4, .read, true⟩
  | .laxZpy nn => ⟨0xB7, .LAX, .zpy nn, 4, .read, false⟩
  | .clv => ⟨0xB8, .CLV, .imp, 2, .none, true⟩
  | .ldaAbsy a => ⟨0xB9, .LDA, .absy a, 4, .read, true⟩
  | .tsx => ⟨0xBA, .TSX, .imp, 2, .none, true⟩
  | .unimplementedBB => ⟨0xBB, .UNIMPLEMENTED, .imp, 0, .none, false⟩
  | .ldyAbsx a => ⟨0xBC, .LDY, .absx a, 4, .read, true⟩
  | .ldaAbsx a => ⟨0xBD, .LDA, .absx a, 4, .read, true⟩
  | .ldxAbsy a => ⟨0xBE, .LDX, .absy a, 4, .read, true⟩
  | .laxAbsy a => ⟨0xBF, .LAX, .absy a, 4, .read, false⟩
  | .cpyImm nn => ⟨0xC0, .CPY, .imm nn, 2, .immediate, true⟩
  | .cmpIndx nn => ⟨0xC1, .CMP, .indx nn, 6, .read, true⟩
  | .nopImmC2 nn => ⟨0xC2, .NOP, .imm nn, 2, .immediate, false⟩
  | .dcpIndx nn => ⟨0xC3, .DCP, .indx nn, 8, .rmw, false⟩
  | .cpyZp nn => ⟨0xC4, .CPY, .zp nn, 3, .read, true⟩
  | .cmpZp nn => ⟨0xC5, .CMP, .zp nn, 3, .read, true⟩
  | .decZp nn => ⟨0xC6, .DEC, .zp nn, 5, .rmw, true⟩
  | .dcpZp nn => ⟨0xC7, .DCP, .zp nn, 5, .rmw, false⟩
  | .iny => ⟨0xC8, .INY, .imp, 2, .none, true⟩
  | .cmpImm nn => ⟨0xC9, .CMP, .imm nn, 2, .immediate, true⟩
  | .dex => ⟨0xCA, .DEX, .imp, 2, .none, true⟩
  | .unimplementedCB => ⟨0xCB, .UNIMPLEMENTED, .imp, 0, .none, false⟩
  | .cpyAbs a => ⟨0xCC, .CPY, .abs a, 4, .read, true⟩
  | .cmpAbs a => ⟨0xCD, .CMP, .abs a, 4, .read, true⟩
  | .decAbs a => ⟨0xCE, .DEC, .abs a, 6, .rmw, true⟩
  | .dcpAbs a => ⟨0xCF, .DCP, .abs a, 6, .rmw, false⟩
  | .bne nn => ⟨0xD0, .BNE, .rel nn, 2, .none, true⟩
  | .cmpIndy nn => ⟨0xD1, .CMP, .indy nn, 5, .read, true⟩
  | .unimplementedD2 => ⟨0xD2, .UNIMPLEMENTED, .imp, 0, .none, false⟩
  | .dcpIndy nn => ⟨0xD3, .DCP, .indy nn, 8, .rmw, false⟩
  | .nopZpxD4 nn => ⟨0xD4, .NOP, .zpx nn, 4, .read, false⟩
  | .cmpZpx nn => ⟨0xD5, .CMP, .zpx nn, 4, .read, true⟩
  | .decZpx nn => ⟨0xD6, .DEC, .zpx nn, 6, .rmw, true⟩
  | .dcpZpx nn => ⟨0xD7, .DCP, .zpx nn, 6, .rmw, false⟩
  | .cld => ⟨0xD8, .CLD, .imp, 2, .none, true⟩
  | .cmpAbsy a => ⟨0xD9, .CMP, .absy a, 4, .read, true⟩
  | .nopDA => ⟨0xDA, .NOP, .imp, 2, .none, false⟩
  | .dcpAbsy a => ⟨0xDB, .DCP, .absy a, 7, .rmw, false⟩
  | .nopAbsxDC a => ⟨0xDC, .NOP, .absx a, 4, .read, false⟩
  | .cmpAbsx a => ⟨0xDD, .CMP, .absx a, 4, .read, true⟩
  | .decAbsx a => ⟨0xDE, .DEC, .absx a, 7, .rmw, true⟩
  | .dcpAbsx a => ⟨0xDF, .DCP, .absx a, 7, .rmw, false⟩
  | .cpxImm nn => ⟨0xE0, .CPX, .imm nn, 2, .immediate, true⟩
  | .sbcIndx nn => ⟨0xE1, .SBC, .indx nn, 6, .read, true⟩
  | .nopImmE2 nn => ⟨0xE2, .NOP, .imm nn, 2, .immediate, false⟩
  | .isbIndx nn => ⟨0xE3, .ISB, .indx nn, 8, .rmw, false⟩
  | .cpxZp nn => ⟨0xE4, .CPX, .zp nn, 3, .read, true⟩
  | .sbcZp nn => ⟨0xE5, .SBC, .zp nn, 3, .read, true⟩
  | .incZp nn => ⟨0xE6, .INC, .zp nn, 5, .rmw, true⟩
  | .isbZp nn => ⟨0xE7, .ISB, .zp nn, 5, .rmw, false⟩
  | .inx => ⟨0xE8, .INX, .imp, 2, .none, true⟩
  | .sbcImm nn => ⟨0xE9, .SBC, .imm nn, 2, .immediate, true⟩
  | .nop => ⟨0xEA, .NOP, .imp, 2, .none, true⟩
  | .sbcImmEB nn => ⟨0xEB, .SBC, .imm nn, 2, .immediate, false⟩
  | .cpxAbs a => ⟨0xEC, .CPX, .abs a, 4, .read, true⟩
  | .sbcAbs a => ⟨0xED, .SBC, .abs a, 4, .read, true⟩
  | .incAbs a => ⟨0xEE, .INC, .abs a, 6, .rmw, true⟩
  | .isbAbs a => ⟨0xEF, .ISB, .abs a, 6, .rmw, false⟩
  | .beq nn => ⟨0xF0, .BEQ, .rel nn, 2, .none, true⟩
  | .sbcIndy nn => ⟨0xF1, .SBC, .indy nn, 5, .read, true⟩
  | .unimplementedF2 => ⟨0xF2, .UNIMPLEMENTED, .imp, 0, .none, false⟩
  | .isbIndy nn => ⟨0xF3, .ISB, .indy nn, 8, .rmw, false⟩
  | .nopZpxF4 nn => ⟨0xF4, .NOP, .zpx nn, 4, .read, false⟩
  | .sbcZpx nn => ⟨0xF5, .SBC, .zpx nn, 4, .read, true⟩
  | .incZpx nn => ⟨0xF6, .INC, .zpx nn, 6, .rmw, true⟩
  | .isbZpx nn => ⟨0xF7, .ISB, .zpx nn, 6, .rmw, false⟩
  | .sed => ⟨0xF8, .SED, .imp, 2, .none, true⟩
  | .sbcAbsy a => ⟨0xF9, .SBC, .absy a, 4, .read, true⟩
  | .nopFA => ⟨0xFA, .NOP, .imp, 2, .none, false⟩
  | .isbAbsy a => ⟨0xFB, .ISB, .absy a, 7, .rmw, false⟩
  | .nopAbsxFC a => ⟨0xFC, .NOP, .absx a, 4, .read, false⟩
  | .sbcAbsx a => ⟨0xFD, .SBC, .absx a, 4, .read, true⟩
  | .incAbsx a => ⟨0xFE, .INC, .absx a, 7, .rmw, true⟩
  | .isbAbsx a => ⟨0xFF, .ISB, .absx a, 7, .rmw, false⟩

/-- The length of an instruction in bytes (R70). -/
def Instr.length (i : Instr) : Nat := i.row.operand.length

/-- The implemented instructions are the well-formed ones; the 25 rows of R76 decode to no instruction and are not. -/
def Instr.wf (i : Instr) : Bool := i.row.wf

/-- The words of an instruction: the opcode byte, then the operand bytes (R70 to R72). -/
def encode (i : Instr) : List Byte := i.row.opcode :: i.row.operand.bytes

/-- An entry of the dispatch table (R73): an instruction that still waits for its operand of 0, 1 or 2 bytes. -/
inductive Entry where
  | op0 (i : Instr)
  | op1 (f : Byte → Instr)
  | op2 (f : Word → Instr)

/-- Row 0x of the opcode map (30 section 5). -/
def opcodes0 : List Entry :=
  [.op0 .brk, .op1 .oraIndx, .op0 .unimplemented02, .op1 .sloIndx,
   .op1 .nopZp04, .op1 .oraZp, .op1 .aslZp, .op1 .sloZp,
   .op0 .php, .op1 .oraImm, .op0 .aslAcc, .op0 .unimplemented0B,
   .op2 .nopAbs, .op2 .oraAbs, .op2 .aslAbs, .op2 .sloAbs]

/-- Row 1x of the opcode map (30 section 5). -/
def opcodes1 : List Entry :=
  [.op1 .bpl, .op1 .oraIndy, .op0 .unimplemented12, .op1 .sloIndy,
   .op1 .nopZpx14, .op1 .oraZpx, .op1 .aslZpx, .op1 .sloZpx,
   .op0 .clc, .op2 .oraAbsy, .op0 .nop1A, .op2 .sloAbsy,
   .op2 .nopAbsx1C, .op2 .oraAbsx, .op2 .aslAbsx, .op2 .sloAbsx]

/-- Row 2x of the opcode map (30 section 5). -/
def opcodes2 : List Entry :=
  [.op2 .jsr, .op1 .andIndx, .op0 .unimplemented22, .op1 .rlaIndx,
   .op1 .bitZp, .op1 .andZp, .op1 .rolZp, .op1 .rlaZp,
   .op0 .plp, .op1 .andImm, .op0 .rolAcc, .op0 .unimplemented2B,
   .op2 .bitAbs, .op2 .andAbs, .op2 .rolAbs, .op2 .rlaAbs]

/-- Row 3x of the opcode map (30 section 5). -/
def opcodes3 : List Entry :=
  [.op1 .bmi, .op1 .andIndy, .op0 .unimplemented32, .op1 .rlaIndy,
   .op1 .nopZpx34, .op1 .andZpx, .op1 .rolZpx, .op1 .rlaZpx,
   .op0 .sec, .op2 .andAbsy, .op0 .nop3A, .op2 .rlaAbsy,
   .op2 .nopAbsx3C, .op2 .andAbsx, .op2 .rolAbsx, .op2 .rlaAbsx]

/-- Row 4x of the opcode map (30 section 5). -/
def opcodes4 : List Entry :=
  [.op0 .rti, .op1 .eorIndx, .op0 .unimplemented42, .op1 .sreIndx,
   .op1 .nopZp44, .op1 .eorZp, .op1 .lsrZp, .op1 .sreZp,
   .op0 .pha, .op1 .eorImm, .op0 .lsrAcc, .op0 .unimplemented4B,
   .op2 .jmpAbs, .op2 .eorAbs, .op2 .lsrAbs, .op2 .sreAbs]

/-- Row 5x of the opcode map (30 section 5). -/
def opcodes5 : List Entry :=
  [.op1 .bvc, .op1 .eorIndy, .op0 .unimplemented52, .op1 .sreIndy,
   .op1 .nopZpx54, .op1 .eorZpx, .op1 .lsrZpx, .op1 .sreZpx,
   .op0 .cli, .op2 .eorAbsy, .op0 .nop5A, .op2 .sreAbsy,
   .op2 .nopAbsx5C, .op2 .eorAbsx, .op2 .lsrAbsx, .op2 .sreAbsx]

/-- Row 6x of the opcode map (30 section 5). -/
def opcodes6 : List Entry :=
  [.op0 .rts, .op1 .adcIndx, .op0 .unimplemented62, .op1 .rraIndx,
   .op1 .nopZp64, .op1 .adcZp, .op1 .rorZp, .op1 .rraZp,
   .op0 .pla, .op1 .adcImm, .op0 .rorAcc, .op0 .unimplemented6B,
   .op2 .jmpInd, .op2 .adcAbs, .op2 .rorAbs, .op2 .rraAbs]

/-- Row 7x of the opcode map (30 section 5). -/
def opcodes7 : List Entry :=
  [.op1 .bvs, .op1 .adcIndy, .op0 .unimplemented72, .op1 .rraIndy,
   .op1 .nopZpx74, .op1 .adcZpx, .op1 .rorZpx, .op1 .rraZpx,
   .op0 .sei, .op2 .adcAbsy, .op0 .nop7A, .op2 .rraAbsy,
   .op2 .nopAbsx7C, .op2 .adcAbsx, .op2 .rorAbsx, .op2 .rraAbsx]

/-- Row 8x of the opcode map (30 section 5). -/
def opcodes8 : List Entry :=
  [.op1 .nopImm80, .op1 .staIndx, .op1 .nopImm82, .op1 .saxIndx,
   .op1 .styZp, .op1 .staZp, .op1 .stxZp, .op1 .saxZp,
   .op0 .dey, .op1 .nopImm89, .op0 .txa, .op0 .unimplemented8B,
   .op2 .styAbs, .op2 .staAbs, .op2 .stxAbs, .op2 .saxAbs]

/-- Row 9x of the opcode map (30 section 5). -/
def opcodes9 : List Entry :=
  [.op1 .bcc, .op1 .staIndy, .op0 .unimplemented92, .op0 .unimplemented93,
   .op1 .styZpx, .op1 .staZpx, .op1 .stxZpy, .op1 .saxZpy,
   .op0 .tya, .op2 .staAbsy, .op0 .txs, .op0 .unimplemented9B,
   .op0 .unimplemented9C, .op2 .staAbsx, .op0 .unimplemented9E, .op0 .unimplemented9F]

/-- Row Ax of the opcode map (30 section 5). -/
def opcodesA : List Entry :=
  [.op1 .ldyImm, .op1 .ldaIndx, .op1 .ldxImm, .op1 .laxIndx,
   .op1 .ldyZp, .op1 .ldaZp, .op1 .ldxZp, .op1 .laxZp,
   .op0 .tay, .op1 .ldaImm, .op0 .tax, .op0 .unimplementedAB,
   .op2 .ldyAbs, .op2 .ldaAbs, .op2 .ldxAbs, .op2 .laxAbs]

/-- Row Bx of the opcode map (30 section 5). -/
def opcodesB : List Entry :=
  [.op1 .bcs, .op1 .ldaIndy, .op0 .unimplementedB2, .op1 .laxIndy,
   .op1 .ldyZpx, .op1 .ldaZpx, .op1 .ldxZpy, .op1 .laxZpy,
   .op0 .clv, .op2 .ldaAbsy, .op0 .tsx, .op0 .unimplementedBB,
   .op2 .ldyAbsx, .op2 .ldaAbsx, .op2 .ldxAbsy, .op2 .laxAbsy]

/-- Row Cx of the opcode map (30 section 5). -/
def opcodesC : List Entry :=
  [.op1 .cpyImm, .op1 .cmpIndx, .op1 .nopImmC2, .op1 .dcpIndx,
   .op1 .cpyZp, .op1 .cmpZp, .op1 .decZp, .op1 .dcpZp,
   .op0 .iny, .op1 .cmpImm, .op0 .dex, .op0 .unimplementedCB,
   .op2 .cpyAbs, .op2 .cmpAbs, .op2 .decAbs, .op2 .dcpAbs]

/-- Row Dx of the opcode map (30 section 5). -/
def opcodesD : List Entry :=
  [.op1 .bne, .op1 .cmpIndy, .op0 .unimplementedD2, .op1 .dcpIndy,
   .op1 .nopZpxD4, .op1 .cmpZpx, .op1 .decZpx, .op1 .dcpZpx,
   .op0 .cld, .op2 .cmpAbsy, .op0 .nopDA, .op2 .dcpAbsy,
   .op2 .nopAbsxDC, .op2 .cmpAbsx, .op2 .decAbsx, .op2 .dcpAbsx]

/-- Row Ex of the opcode map (30 section 5). -/
def opcodesE : List Entry :=
  [.op1 .cpxImm, .op1 .sbcIndx, .op1 .nopImmE2, .op1 .isbIndx,
   .op1 .cpxZp, .op1 .sbcZp, .op1 .incZp, .op1 .isbZp,
   .op0 .inx, .op1 .sbcImm, .op0 .nop, .op1 .sbcImmEB,
   .op2 .cpxAbs, .op2 .sbcAbs, .op2 .incAbs, .op2 .isbAbs]

/-- Row Fx of the opcode map (30 section 5). -/
def opcodesF : List Entry :=
  [.op1 .beq, .op1 .sbcIndy, .op0 .unimplementedF2, .op1 .isbIndy,
   .op1 .nopZpxF4, .op1 .sbcZpx, .op1 .incZpx, .op1 .isbZpx,
   .op0 .sed, .op2 .sbcAbsy, .op0 .nopFA, .op2 .isbAbsy,
   .op2 .nopAbsxFC, .op2 .sbcAbsx, .op2 .incAbsx, .op2 .isbAbsx]

/-- The 256-entry table, indexed by the opcode byte (R73). -/
def opcodeMap : List Entry :=
  opcodes0 ++ opcodes1 ++ opcodes2 ++ opcodes3 ++
  opcodes4 ++ opcodes5 ++ opcodes6 ++ opcodes7 ++
  opcodes8 ++ opcodes9 ++ opcodesA ++ opcodesB ++
  opcodesC ++ opcodesD ++ opcodesE ++ opcodesF

/-- The table is total on the opcode byte (R73). -/
theorem opcodeMap_length : opcodeMap.length = 256 := by decide +kernel

/-- The table lookup (R73, R112). -/
def lookup (op : Byte) : Entry :=
  opcodeMap[op.toNat]'(by rw [opcodeMap_length]; exact op.isLt)

/-- Why a list of bytes holds no whole instruction. -/
inductive DecodeError where
  /-- no opcode byte -/
  | noOpcode
  /-- fewer operand bytes than the opcode asks for (R70) -/
  | missingOperand (opcode : Byte)
  deriving DecidableEq, Repr

/-- The decoder (R70 to R73): the first instruction of a list of bytes and the bytes after it. -/
def decode : List Byte → Except DecodeError (Instr × List Byte)
  | [] => .error .noOpcode
  | op :: rest =>
    match lookup op, rest with
    | .op0 i, _ => .ok (i, rest)
    | .op1 f, nn :: rest' => .ok (f nn, rest')
    | .op2 f, l :: h :: rest' => .ok (f (cat h l), rest')
    | .op1 _, [] => .error (.missingOperand op)
    | .op2 _, [] => .error (.missingOperand op)
    | .op2 _, [_] => .error (.missingOperand op)

/-- The bytes of a table word as the hardware stores them: the word's low byte first; bits at and above `nbits` are 0. -/
def tableBytes (nbits w : Nat) : List Byte :=
  let v := w % 2 ^ nbits
  [BitVec.ofNat 8 v, BitVec.ofNat 8 (v / 2 ^ 8), BitVec.ofNat 8 (v / 2 ^ 16)]

/-- The instruction this decoder reads from a word numbered as spec/opcode_table.json numbers it. -/
def decodeTableWord (nbits w : Nat) : Option Instr :=
  match decode (tableBytes nbits w) with
  | .ok (i, _) => some i
  | .error _ => none

end Sys2Proof
end

