-- ==== Sys2Proof/Machine/State.lean ====
section
/-! DEFINITION. The state of the machine as plain data (spec 10), the faults of R261, and the state after reset (R38). -/

namespace Sys2Proof.Machine

/-- Which kind of access raised UnmappedAddress (R261). -/
inductive Access where
  | read | write
  deriving DecidableEq, Repr

/-- The five fault kinds of R261 with their information, a closed set; each is fatal (R262). -/
inductive FaultKind where
  /-- Raised by the meanings of the 25 rows of R242 (execUnimplemented..): the spec's own fault. Safe: a real part may go on. -/
  | unknownOpcode (pc : Word) (opcode : Byte)
  /-- Raised by memRead and memWrite at 0x4018 to 0x7FFF (R49), fetches included: the spec's own fault. Safe. -/
  | unmappedAddress (addr : Word) (access : Access)
  /-- Raised by memWrite at 0x8000 to 0xFFFF under ROM_WRITE_POLICY = Fault (R50): the spec's own fault. Safe. -/
  | romWrite (addr : Word) (value : Byte)
  /-- Raised by memRead in PRG-ROM past PRG_SIZE or with no cartridge (R48): the spec's own fault. Safe. -/
  | configError (offset : Nat)
  /-- Raised by the execution schemes of Operands.lean for a mode an instruction has no meaning for (R120); no step reaches it
  (log entry 7). Safe. -/
  | unsupportedMode (pc : Word) (opcode : Byte)
  deriving DecidableEq, Repr

/-- Why a step has no meaning. -/
inductive Refusal where
  /-- Raised only by an arm of exec that has no meaning yet; every arm has one, so no step raises it. Safe. -/
  | notModelled (mnemonic : String)
  deriving DecidableEq, Repr

/-- Cells that hold bytes, as (index, byte) pairs in the canonical form `Memory.wf`. -/
abbrev Memory := List Host.Cell

/-- What a cell that is not listed reads as. DESIGN CHOICE (log entry 1), unsafe: the spec leaves INIT_RAM and INIT_APU
unconstrained (R283). -/
def unlisted : Byte := 0x00

/-- The canonical form: indexes strictly rising, no entry equal to what an unlisted cell reads as. -/
abbrev Memory.wf (m : Memory) : Prop :=
  m.Pairwise (fun c d => c.1 < d.1) ∧ ∀ c ∈ m, c.2 ≠ unlisted

/-- Every listed index is below the size of the store. -/
abbrev Memory.below (size : Nat) (m : Memory) : Prop := ∀ c ∈ m, c.1 < size

/-- The cartridge as the block sees it (R36, R58): PRG_SIZE and the bytes readPRG answers. -/
structure Cartridge where
  size : Nat
  bytes : Memory
  deriving DecidableEq, Repr

/-- The six stored flags (R25). -/
structure Flags where
  c : Bool
  z : Bool
  i : Bool
  d : Bool
  v : Bool
  n : Bool
  deriving DecidableEq, Repr

/-- All the state the spec gives the machine (10), the parameters of the run (R6) and the record of PPU accesses (R44). -/
structure State where
  /-- A (R20) -/
  a : Byte
  /-- X (R21) -/
  x : Byte
  /-- Y (R22) -/
  y : Byte
  /-- SP (R23) -/
  sp : Byte
  /-- PC (R24) -/
  pc : Word
  /-- C, Z, I, D, V, N (R25) -/
  flags : Flags
  /-- the cycle counter (R30), 64 bits (92 D6) -/
  cycles : BitVec 64
  /-- RAM, cells 0x000 to 0x7FF (R33) -/
  ram : Memory
  /-- the APU/IO register array, cells 0x00 to 0x17 (R34) -/
  apu : Memory
  /-- the loaded cartridge (R36), none when no cartridge is loaded (R48); no step changes it -/
  cart : Option Cartridge
  /-- the parameters of R6; no step changes them -/
  params : Params
  /-- the PPU accesses so far, in program order (R44, R56, R61) -/
  ppuLog : List PpuEvent
  /-- the fault mark (R37) -/
  faultMark : Option FaultKind
  deriving DecidableEq, Repr

/-- A fault as a step answers it (R11, R262): its kind with the information of R261, and the machine as it left it. -/
structure Fault where
  /-- Made by `raise` at each access or check that a constructor of FaultKind names, by the 25 meanings of R242, and by `step`
  where the mark is set. `left` is the machine as that access or check found it, with every register, flag, memory and event
  write made earlier in the same step (R262 b: they are not undone). The spec makes no claim of the state after a fault, so no
  statement goes on from it (log entry 4). Safe: the step stops. -/
  raised ::
  kind : FaultKind
  left : State
  deriving DecidableEq, Repr

/-- The cartridge of `State.reset`. DESIGN CHOICE (log entry 2), unsafe: the spec says only that a cartridge is loaded before
reset (R284); this one is 16 KB, the least that backs every PRG address (R6), with nothing listed. -/
def Cartridge.blank : Cartridge where
  size := 0x4000
  bytes := []

/-- The machine right after reset with the default parameters (R38, R280). -/
def State.reset : State where
  a := 0x00
  x := 0x00
  y := 0x00
  sp := 0xFD
  pc := 0xC000
  flags := { c := false, z := false, i := true, d := false, v := false, n := false }
  cycles := 7
  ram := []
  apu := []
  cart := some Cartridge.blank
  params := Params.default
  ppuLog := []
  faultMark := none

end Sys2Proof.Machine
end

