-- ==== Sys2Proof/Machine/Flags.lean ====
section
/-! DEFINITION. The status byte and every flag computation of the spec: SetZN (R119), Pack and Unpack (R27, R28), the ALU core
functions (R160 to R162), BIT (R168) and the shift core functions (R190). -/

namespace Sys2Proof.Machine

/-- A bit as a 0 or 1 byte. -/
def bit (b : Bool) : Byte := if b then 1 else 0

/-- SetZN(r) (R119). -/
def Flags.setZN (f : Flags) (r : Byte) : Flags := { f with z := r == 0, n := r.msb }

/-- Pack(b) (R26, R27): N V 1 B D I Z C from bit 7 down. The live P is `pack false`. -/
def Flags.pack (f : Flags) (b : Bool) : Byte :=
  bit f.n <<< 7 ||| bit f.v <<< 6 ||| 0x20 ||| bit b <<< 4 ||| bit f.d <<< 3 ||| bit f.i <<< 2 ||| bit f.z <<< 1 ||| bit f.c

/-- Unpack(v) (R28): bits 4 and 5 are ignored. -/
def Flags.unpack (v : Byte) : Flags where
  c := v.getLsbD 0
  z := v.getLsbD 1
  i := v.getLsbD 2
  d := v.getLsbD 3
  v := v.getLsbD 6
  n := v.getLsbD 7

/-- AddCore(a, m, C) (R160): the result, and the flags with C, V, Z, N written. D is not read (92 D2). Bit 7 of t is bit 7 of
r, so the overflow formula is written over bytes. -/
def addCore (a m : Byte) (f : Flags) : Byte × Flags :=
  let t : Nat := a.toNat + m.toNat + f.c.toNat
  let r : Byte := BitVec.ofNat 8 t
  (r, { f with c := decide (t > 0xFF), v := ((a ^^^ r) &&& (m ^^^ r) &&& 0x80) != 0 }.setZN r)

/-- SubCore(a, m, C) (R161): borrow is 1 - C; t is exact and may be negative. D is not read (92 D2). -/
def subCore (a m : Byte) (f : Flags) : Byte × Flags :=
  let t : Int := a.toNat - m.toNat - (1 - f.c.toNat)
  let r : Byte := BitVec.ofInt 8 t
  (r, { f with c := decide (0 ≤ t), v := ((a ^^^ m) &&& 0x80) != 0 && ((a ^^^ r) &&& 0x80) != 0 }.setZN r)

/-- Compare(reg, m) (R162): writes C, Z, N only. -/
def compareFlags (reg m : Byte) (f : Flags) : Flags :=
  { f with c := decide (m.toNat ≤ reg.toNat), z := reg == m, n := (reg - m).msb }

/-- The flags of BIT (R168): Z from A & M, N and V from M. -/
def bitTest (a m : Byte) (f : Flags) : Flags :=
  { f with z := (a &&& m) == 0, n := m.getLsbD 7, v := m.getLsbD 6 }

/-- ShiftASL(m, c) (R190): the result and the new carry. -/
def shiftAsl (m : Byte) (_c : Bool) : Byte × Bool := (m <<< 1, m.getLsbD 7)

/-- ShiftLSR(m, c) (R190). -/
def shiftLsr (m : Byte) (_c : Bool) : Byte × Bool := (m >>> 1, m.getLsbD 0)

/-- ShiftROL(m, c) (R190): the old carry enters bit 0. -/
def shiftRol (m : Byte) (c : Bool) : Byte × Bool := (m <<< 1 ||| bit c, m.getLsbD 7)

/-- ShiftROR(m, c) (R190): the old carry enters bit 7. -/
def shiftRor (m : Byte) (c : Bool) : Byte × Bool := (m >>> 1 ||| bit c <<< 7, m.getLsbD 0)

end Sys2Proof.Machine
end

