-- ==== Sys2Proof/Machine/Ops.lean ====
section
/-! DEFINITION. The named operations over memory and registers: the canonical memory, the bus decoder (20 sections 1 and 2), 16-bit
reads (R51 to R53), the stack (R59), entering a handler (R213, R264) and returning from one (R212, R265), and reset (R280). -/

namespace Sys2Proof.Machine

/-! ## Memory cells -/

/-- The byte of a cell. -/
def Memory.get : Memory → Nat → Byte
  | [], _ => unlisted
  | c :: rest, k => if c.1 = k then c.2 else Memory.get rest k

/-- The memory without an entry for a cell. -/
def Memory.erase (m : Memory) (k : Nat) : Memory := m.filter (fun c => c.1 ≠ k)

/-- The memory with an entry for a cell, at its place in the order. -/
def Memory.insert : Memory → Nat → Byte → Memory
  | [], k, v => [(k, v)]
  | c :: rest, k, v =>
    if k < c.1 then (k, v) :: c :: rest
    else if k = c.1 then (k, v) :: rest
    else c :: Memory.insert rest k v

/-- Write a cell, keeping the canonical form: writing what an unlisted cell reads as removes the entry. -/
def Memory.set (m : Memory) (k : Nat) (v : Byte) : Memory :=
  if v = unlisted then m.erase k else m.insert k v

/-! ## Registers, one update each -/

def State.setA (s : State) (v : Byte) : State := { s with a := v }
def State.setX (s : State) (v : Byte) : State := { s with x := v }
def State.setY (s : State) (v : Byte) : State := { s with y := v }
def State.setSP (s : State) (v : Byte) : State := { s with sp := v }
def State.setPC (s : State) (v : Word) : State := { s with pc := v }
def State.setFlags (s : State) (f : Flags) : State := { s with flags := f }
def State.setRam (s : State) (k : Nat) (v : Byte) : State := { s with ram := s.ram.set k v }
def State.setApu (s : State) (k : Nat) (v : Byte) : State := { s with apu := s.apu.set k v }

/-- Add a step's cost to the cycle counter (R30, R117). -/
def State.credit (s : State) (n : Nat) : State := { s with cycles := s.cycles + BitVec.ofNat 64 n }

/-- Append a PPU access to the record, in program order (R44, R61). -/
def State.logPpu (s : State) (e : PpuEvent) : State := { s with ppuLog := s.ppuLog ++ [e] }

/-- SetZN(r) on the state's flags (R119). -/
def State.setZN (s : State) (r : Byte) : State := s.setFlags (s.flags.setZN r)

/-! ## Accesses that may fault -/

/-- The result of bus activity: a value and the state after it, or the fault that ends the step, which holds the state it was
raised in (R11, R262). -/
abbrev Bus (α : Type) := Except Fault (α × State)

/-- End the step at this access or check (R262 a); what the step has written so far stays (R262 b). -/
def raise {α : Type} (kind : FaultKind) (s : State) : Bus α := .error { kind := kind, left := s }

/-- Do one access after another; the first fault ends it (R262 d). -/
def andThen {α β : Type} (r : Bus α) (k : α → State → Bus β) : Bus β :=
  match r with
  | .ok (v, s) => k v s
  | .error e => .error e

/-! ## The bus decoder -/

/-- The backing store an address decodes to, with its index (R42). -/
inductive BusTarget where
  | ram (k : Nat)
  | ppu (r : BitVec 3)
  | apu (k : Nat)
  | unmapped
  | prg (off : Nat)
  deriving DecidableEq, Repr

/-- The address decode of R42. -/
def busDecode (prgUpperBase : Nat) (a : Word) : BusTarget :=
  if a ≤ 0x1FFF#16 then .ram (a &&& 0x07FF#16).toNat
  else if a ≤ 0x3FFF#16 then .ppu (a.setWidth 3)
  else if a ≤ 0x4017#16 then .apu (a.toNat - 0x4000)
  else if a ≤ 0x7FFF#16 then .unmapped
  else if a ≤ 0xBFFF#16 then .prg (a &&& 0x7FFF#16).toNat
  else .prg (a.toNat - 0xC000 + prgUpperBase)

/-- The store behind an address in this state's configuration. -/
def State.target (s : State) (a : Word) : BusTarget := busDecode s.params.prgUpperBase a

/-- The cartridge's byte at an offset, if a cartridge is loaded and holds it (R48). -/
def readPRG (cart : Option Cartridge) (off : Nat) : Option Byte :=
  match cart with
  | none => none
  | some c => if off < c.size then some (c.bytes.get off) else none

/-- PpuRead(r) (R44): the external PPU's answer, recorded as an event. -/
def ppuRead (r : BitVec 3) (s : State) : Byte × State :=
  let v := Config.ppuOracle s.ppuLog s.cycles r
  (v, s.logPpu (.read s.cycles r v))

/-- MemRead(a, 1) (R42, R48, R49). -/
def memRead (a : Word) (s : State) : Bus Byte :=
  match s.target a with
  | .ram k => .ok (s.ram.get k, s)
  | .ppu r => .ok (ppuRead r s)
  | .apu k => .ok (s.apu.get k, s)
  | .unmapped => raise (.unmappedAddress a .read) s
  | .prg off =>
    match readPRG s.cart off with
    | some v => .ok (v, s)
    | none => raise (.configError off) s

/-- RomWrite(a, v) (R50). -/
def romWrite (a : Word) (v : Byte) (s : State) : Bus Unit :=
  match s.params.romWritePolicy with
  | .fault => raise (.romWrite a v) s
  | .ignore => .ok ((), s)

/-- MemWrite(a, 1, v) (R42, R49, R50). -/
def memWrite (a : Word) (v : Byte) (s : State) : Bus Unit :=
  match s.target a with
  | .ram k => .ok ((), s.setRam k v)
  | .ppu r => .ok ((), s.logPpu (.write s.cycles r v))
  | .apu k => .ok ((), s.setApu k v)
  | .unmapped => raise (.unmappedAddress a .write) s
  | .prg _ => romWrite a v s

/-- The byte a read of RAM, the APU array or PRG-ROM returns (R56: such a read has no side effect); none where a read is a
PPU access or faults. -/
def State.peek (s : State) (a : Word) : Option Byte :=
  match s.target a with
  | .ram k => some (s.ram.get k)
  | .apu k => some (s.apu.get k)
  | .prg off => readPRG s.cart off
  | .ppu _ => none
  | .unmapped => none

/-! ## 16-bit reads, low byte first -/

/-- Two byte reads, low then high, assembled (R51, R55). -/
def readPair (lo hi : Word) (s : State) : Bus Word :=
  andThen (memRead lo s) fun l s1 => andThen (memRead hi s1) fun h s2 => .ok (cat h l, s2)

/-- Read16(p) (R51). -/
def read16 (p : Word) (s : State) : Bus Word := readPair p (p + 1) s

/-- Read16ZP(p) (R52): the high byte's address wraps within zero page. -/
def read16ZP (p : Byte) (s : State) : Bus Word := readPair (zext16 p) (zext16 (p + 1)) s

/-- The address of the high byte of Read16Bug (R53): it stays in the page of p. -/
def bugHigh (p : Word) : Word := (p &&& 0xFF00) ||| ((p + 1) &&& 0x00FF)

/-- Read16Bug(p) (R53). -/
def read16Bug (p : Word) (s : State) : Bus Word := readPair p (bugHigh p) s

/-! ## The stack -/

/-- The stack address 0x0100 + SP (R23, R57, R60). -/
def stackAddr (sp : Byte) : Word := 0x0100 + zext16 sp

/-- Push(v) (R59): write, then decrement SP. -/
def push (v : Byte) (s : State) : Bus Unit :=
  andThen (memWrite (stackAddr s.sp) v s) fun _ s1 => .ok ((), s1.setSP (s1.sp - 1))

/-- Pull() (R59): increment SP, then read. -/
def pull (s : State) : Bus Byte :=
  let s1 := s.setSP (s.sp + 1)
  memRead (stackAddr s1.sp) s1

/-- Push16(w) (R59): high byte first. -/
def push16 (w : Word) (s : State) : Bus Unit :=
  andThen (push (hiByte w) s) fun _ s1 => push (loByte w) s1

/-- Pull16() (R59): low byte first. -/
def pull16 (s : State) : Bus Word :=
  andThen (pull s) fun l s1 => andThen (pull s1) fun h s2 => .ok (cat h l, s2)

/-! ## Taking an exception and returning from one -/

/-- The IRQ/BRK vector (R57). -/
def breakVector : Word := 0xFFFE

/-- Enter the handler of the software break (R213, R264): push the return address and Pack(1), set I, load PC from the
vector. It is the block's only exception entry (R260, R263). -/
def enterBreak (ret : Word) (s : State) : Bus Unit :=
  andThen (push16 ret s) fun _ s1 =>
  andThen (push (s1.flags.pack true) s1) fun _ s2 =>
  andThen (read16 breakVector (s2.setFlags { s2.flags with i := true })) fun target s3 =>
  .ok ((), s3.setPC target)

/-- Return from a handler (R212, R265): pull the status byte, then PC. -/
def leaveBreak (s : State) : Bus Unit :=
  andThen (pull s) fun p s1 =>
  andThen (pull16 (s1.setFlags (Flags.unpack p))) fun target s2 =>
  .ok ((), s2.setPC target)

/-! ## Reset -/

/-- The reset vector (R57). -/
def resetVector : Word := 0xFFFC

/-- The state of R38 but for PC, with every parameter of the run an argument (R280, R283). -/
def atReset (p : Params) (cart : Cartridge) (initRam initApu : Memory) : State :=
  { State.reset with
      cycles := p.cyclesAtReset, ram := initRam, apu := initApu, cart := some cart, params := p }

/-- Reset() (R280, R281): a cartridge is loaded (R284); the vector read of RESET_PC_MODE = Vector may fault, and the run then
never starts. -/
def powerOn (p : Params) (cart : Cartridge) (initRam initApu : Memory) : Except FaultKind State :=
  let s := atReset p cart initRam initApu
  match p.resetPcMode with
  | .fixed a => .ok (s.setPC a)
  | .vector =>
    match read16 resetVector s with
    | .ok (target, s1) => .ok (s1.setPC target)
    | .error e => .error e.kind

end Sys2Proof.Machine
end

