-- ==== Sys2Proof/Machine/Operands.lean ====
section
/-! DEFINITION. The addressing-mode resolver (spec 40), the access classes (R115) and the execution scheme every meaning is built
on: operand fetch done, resolve, execute, credit the cycles (R110, R113 to R117). -/

namespace Sys2Proof.Machine

/-- The answer of one instruction or one step. -/
abbrev Result := Host.Outcome State Fault Refusal

/-! ## The resolver -/

/-- What a mode resolves to (R90). -/
inductive Target where
  | noTarget
  | accumulator
  | value (v : Byte)
  | address (ea : Word)
  deriving DecidableEq, Repr

/-- A target with its page_crossed bit (R90). -/
structure Resolved where
  target : Target
  crossed : Bool
  deriving DecidableEq, Repr

/-- An indexed 16-bit address and its page-cross bit (R99, R100, R103). -/
def indexed (base : Word) (index : Byte) : Resolved :=
  let ea := base + zext16 index
  { target := .address ea, crossed := hiByte ea != hiByte base }

/-- An address with no page cross. -/
def uncrossed (ea : Word) : Resolved := { target := .address ea, crossed := false }

/-- Resolve(mode, operand, X, Y, PC) (R90 to R103), with PC the address after the operand. The state changes only if a
pointer read of ind is a PPU access (R105). -/
def resolve (o : Operand) (s : State) : Bus Resolved :=
  match o with
  | .imp => .ok ({ target := .noTarget, crossed := false }, s)
  | .acc => .ok ({ target := .accumulator, crossed := false }, s)
  | .imm nn => .ok ({ target := .value nn, crossed := false }, s)
  | .zp nn => .ok (uncrossed (zext16 nn), s)
  | .zpx nn => .ok (uncrossed (zext16 (nn + s.x)), s)
  | .zpy nn => .ok (uncrossed (zext16 (nn + s.y)), s)
  | .rel nn => .ok (uncrossed (s.pc + sext16 nn), s)
  | .abs a => .ok (uncrossed a, s)
  | .absx a => .ok (indexed a s.x, s)
  | .absy a => .ok (indexed a s.y, s)
  | .ind a => andThen (read16Bug a s) fun target s1 => .ok (uncrossed target, s1)
  | .indx nn => andThen (read16ZP (nn + s.x) s) fun target s1 => .ok (uncrossed target, s1)
  | .indy nn => andThen (read16ZP nn s) fun base s1 => .ok (indexed base s.y, s1)

/-! ## The common step -/

/-- The state after the operand fetch: PC is the address of the next sequential instruction (R113). -/
def State.pastOperand (s : State) (i : Instr) : State := s.setPC (s.pc + BitVec.ofNat 16 i.length)

/-- The cycles of a step (R117): base, page-cross penalty (R104), branch extra. -/
def Instr.cost (i : Instr) (crossed : Bool) (extra : Nat) : Nat :=
  i.row.cycles + (if crossed && i.row.pagePenalty then 1 else 0) + extra

/-- What an instruction does once its target is known; the number is the branch extra (R116, R117). -/
abbrev Body := Target → State → Bus Nat

/-- The lines of Step() after the operand fetch (R110): resolve, execute, credit. -/
def runBody (i : Instr) (body : Body) (s : State) : Bus Unit :=
  andThen (resolve i.row.operand (s.pastOperand i)) fun r s1 =>
  andThen (body r.target s1) fun extra s2 =>
  .ok ((), s2.credit (Instr.cost i r.crossed extra))

/-- A completed step answers its next state, a fault ends it (R11). -/
def finish (r : Bus Unit) : Result :=
  match r with
  | .ok (_, s) => .next s
  | .error e => .fault e

/-- Execute an instruction whose opcode is at PC and whose bytes have been fetched. -/
def execute (i : Instr) (body : Body) (s : State) : Result := finish (runBody i body s)

/-- UnsupportedMode for this instruction at this PC (R120). -/
def badMode (i : Instr) (s : State) : FaultKind := .unsupportedMode s.pc i.row.opcode

/-! ## The access classes of R115 -/

/-- Class none: no operand and no access beyond the fetch. -/
def impliedBody (bad : FaultKind) (f : State → State) : Body
  | .noTarget, s => .ok (0, f s)
  | _, s => raise bad s

/-- Class none with accesses of its own: the stack instructions, RTS, RTI and BRK. -/
def accessBody (bad : FaultKind) (f : State → Bus Unit) : Body
  | .noTarget, s => andThen (f s) fun _ s1 => .ok (0, s1)
  | _, s => raise bad s

/-- Classes read and immediate: M is read from EA once, or is the operand. -/
def readBody (bad : FaultKind) (f : Byte → State → State) : Body
  | .value m, s => .ok (0, f m s)
  | .address ea, s => andThen (memRead ea s) fun m s1 => .ok (0, f m s1)
  | _, s => raise bad s

/-- Class write: one write of a computed byte to EA, which is never read. -/
def writeBody (bad : FaultKind) (v : State → Byte) : Body
  | .address ea, s => andThen (memWrite ea (v s) s) fun _ s1 => .ok (0, s1)
  | _, s => raise bad s

/-- Class rmw: M is read from EA once, `r M` is written to EA once, and `post M` gives the registers and flags. -/
def rmwBody (bad : FaultKind) (r : Byte → State → Byte) (post : Byte → State → State) : Body
  | .address ea, s =>
    andThen (memRead ea s) fun m s1 =>
    andThen (memWrite ea (r m s1) s1) fun _ s2 =>
    .ok (0, post m s2)
  | _, s => raise bad s

/-- Class register: the shift of A (R191). -/
def registerBody (bad : FaultKind) (f : Byte → State → State) : Body
  | .accumulator, s => .ok (0, f s.a s)
  | _, s => raise bad s

/-- Branch(cond) (R200): 1 extra cycle if taken, 1 more if the target is on another page than PC after the operand. -/
def branchBody (bad : FaultKind) (cond : State → Bool) : Body
  | .address target, s =>
    if cond s then .ok (1 + (if hiByte s.pc != hiByte target then 1 else 0), s.setPC target)
    else .ok (0, s)
  | _, s => raise bad s

/-- Class jump: EA is the target and is not read. -/
def jumpBody (bad : FaultKind) (f : Word → State → Bus Unit) : Body
  | .address target, s => andThen (f target s) fun _ s1 => .ok (0, s1)
  | _, s => raise bad s

def execImplied (i : Instr) (f : State → State) (s : State) : Result := execute i (impliedBody (badMode i s) f) s
def execAccess (i : Instr) (f : State → Bus Unit) (s : State) : Result := execute i (accessBody (badMode i s) f) s
def execRead (i : Instr) (f : Byte → State → State) (s : State) : Result := execute i (readBody (badMode i s) f) s
def execWrite (i : Instr) (v : State → Byte) (s : State) : Result := execute i (writeBody (badMode i s) v) s
def execRmw (i : Instr) (r : Byte → State → Byte) (post : Byte → State → State) (s : State) : Result :=
  execute i (rmwBody (badMode i s) r post) s
def execRegister (i : Instr) (f : Byte → State → State) (s : State) : Result :=
  execute i (registerBody (badMode i s) f) s
def execBranch (i : Instr) (cond : State → Bool) (s : State) : Result := execute i (branchBody (badMode i s) cond) s
def execJump (i : Instr) (f : Word → State → Bus Unit) (s : State) : Result := execute i (jumpBody (badMode i s) f) s

end Sys2Proof.Machine
end

