-- ==== Sys2Proof/Machine/Alu.lean ====
section
/-! DEFINITION. Arithmetic, logic, compare, increment and decrement (spec 44). -/

namespace Sys2Proof.Machine

/-! ### ADC (R163) -/

/-- `A <- AddCore(A, M, C)` (R160, R163). -/
def adcEffect (m : Byte) (s : State) : State :=
  let r := addCore s.a m s.flags
  (s.setA r.1).setFlags r.2

/-- 0x61 ADC indx. -/
def execAdcIndx (nn : Byte) (s : State) : Result := execRead (.adcIndx nn) adcEffect s
/-- 0x65 ADC zp. -/
def execAdcZp (nn : Byte) (s : State) : Result := execRead (.adcZp nn) adcEffect s
/-- 0x69 ADC imm. -/
def execAdcImm (nn : Byte) (s : State) : Result := execRead (.adcImm nn) adcEffect s
/-- 0x6D ADC abs. -/
def execAdcAbs (a : Word) (s : State) : Result := execRead (.adcAbs a) adcEffect s
/-- 0x71 ADC indy. -/
def execAdcIndy (nn : Byte) (s : State) : Result := execRead (.adcIndy nn) adcEffect s
/-- 0x75 ADC zpx. -/
def execAdcZpx (nn : Byte) (s : State) : Result := execRead (.adcZpx nn) adcEffect s
/-- 0x79 ADC absy. -/
def execAdcAbsy (a : Word) (s : State) : Result := execRead (.adcAbsy a) adcEffect s
/-- 0x7D ADC absx. -/
def execAdcAbsx (a : Word) (s : State) : Result := execRead (.adcAbsx a) adcEffect s

/-! ### SBC (R164; 0xEB: R235) -/

/-- `A <- SubCore(A, M, C)` (R161, R164, R235). -/
def sbcEffect (m : Byte) (s : State) : State :=
  let r := subCore s.a m s.flags
  (s.setA r.1).setFlags r.2

/-- 0xE1 SBC indx. -/
def execSbcIndx (nn : Byte) (s : State) : Result := execRead (.sbcIndx nn) sbcEffect s
/-- 0xE5 SBC zp. -/
def execSbcZp (nn : Byte) (s : State) : Result := execRead (.sbcZp nn) sbcEffect s
/-- 0xE9 SBC imm. -/
def execSbcImm (nn : Byte) (s : State) : Result := execRead (.sbcImm nn) sbcEffect s
/-- 0xEB SBC imm. -/
def execSbcImmEB (nn : Byte) (s : State) : Result := execRead (.sbcImmEB nn) sbcEffect s
/-- 0xED SBC abs. -/
def execSbcAbs (a : Word) (s : State) : Result := execRead (.sbcAbs a) sbcEffect s
/-- 0xF1 SBC indy. -/
def execSbcIndy (nn : Byte) (s : State) : Result := execRead (.sbcIndy nn) sbcEffect s
/-- 0xF5 SBC zpx. -/
def execSbcZpx (nn : Byte) (s : State) : Result := execRead (.sbcZpx nn) sbcEffect s
/-- 0xF9 SBC absy. -/
def execSbcAbsy (a : Word) (s : State) : Result := execRead (.sbcAbsy a) sbcEffect s
/-- 0xFD SBC absx. -/
def execSbcAbsx (a : Word) (s : State) : Result := execRead (.sbcAbsx a) sbcEffect s

/-! ### AND (R165) -/

/-- `A <- A & M; SetZN(A)` (R165). -/
def andEffect (m : Byte) (s : State) : State := (s.setA (s.a &&& m)).setZN (s.a &&& m)

/-- 0x21 AND indx. -/
def execAndIndx (nn : Byte) (s : State) : Result := execRead (.andIndx nn) andEffect s
/-- 0x25 AND zp. -/
def execAndZp (nn : Byte) (s : State) : Result := execRead (.andZp nn) andEffect s
/-- 0x29 AND imm. -/
def execAndImm (nn : Byte) (s : State) : Result := execRead (.andImm nn) andEffect s
/-- 0x2D AND abs. -/
def execAndAbs (a : Word) (s : State) : Result := execRead (.andAbs a) andEffect s
/-- 0x31 AND indy. -/
def execAndIndy (nn : Byte) (s : State) : Result := execRead (.andIndy nn) andEffect s
/-- 0x35 AND zpx. -/
def execAndZpx (nn : Byte) (s : State) : Result := execRead (.andZpx nn) andEffect s
/-- 0x39 AND absy. -/
def execAndAbsy (a : Word) (s : State) : Result := execRead (.andAbsy a) andEffect s
/-- 0x3D AND absx. -/
def execAndAbsx (a : Word) (s : State) : Result := execRead (.andAbsx a) andEffect s

/-! ### ORA (R166) -/

/-- `A <- A | M; SetZN(A)` (R166). -/
def oraEffect (m : Byte) (s : State) : State := (s.setA (s.a ||| m)).setZN (s.a ||| m)

/-- 0x01 ORA indx. -/
def execOraIndx (nn : Byte) (s : State) : Result := execRead (.oraIndx nn) oraEffect s
/-- 0x05 ORA zp. -/
def execOraZp (nn : Byte) (s : State) : Result := execRead (.oraZp nn) oraEffect s
/-- 0x09 ORA imm. -/
def execOraImm (nn : Byte) (s : State) : Result := execRead (.oraImm nn) oraEffect s
/-- 0x0D ORA abs. -/
def execOraAbs (a : Word) (s : State) : Result := execRead (.oraAbs a) oraEffect s
/-- 0x11 ORA indy. -/
def execOraIndy (nn : Byte) (s : State) : Result := execRead (.oraIndy nn) oraEffect s
/-- 0x15 ORA zpx. -/
def execOraZpx (nn : Byte) (s : State) : Result := execRead (.oraZpx nn) oraEffect s
/-- 0x19 ORA absy. -/
def execOraAbsy (a : Word) (s : State) : Result := execRead (.oraAbsy a) oraEffect s
/-- 0x1D ORA absx. -/
def execOraAbsx (a : Word) (s : State) : Result := execRead (.oraAbsx a) oraEffect s

/-! ### EOR (R167) -/

/-- `A <- A ^ M; SetZN(A)` (R167). -/
def eorEffect (m : Byte) (s : State) : State := (s.setA (s.a ^^^ m)).setZN (s.a ^^^ m)

/-- 0x41 EOR indx. -/
def execEorIndx (nn : Byte) (s : State) : Result := execRead (.eorIndx nn) eorEffect s
/-- 0x45 EOR zp. -/
def execEorZp (nn : Byte) (s : State) : Result := execRead (.eorZp nn) eorEffect s
/-- 0x49 EOR imm. -/
def execEorImm (nn : Byte) (s : State) : Result := execRead (.eorImm nn) eorEffect s
/-- 0x4D EOR abs. -/
def execEorAbs (a : Word) (s : State) : Result := execRead (.eorAbs a) eorEffect s
/-- 0x51 EOR indy. -/
def execEorIndy (nn : Byte) (s : State) : Result := execRead (.eorIndy nn) eorEffect s
/-- 0x55 EOR zpx. -/
def execEorZpx (nn : Byte) (s : State) : Result := execRead (.eorZpx nn) eorEffect s
/-- 0x59 EOR absy. -/
def execEorAbsy (a : Word) (s : State) : Result := execRead (.eorAbsy a) eorEffect s
/-- 0x5D EOR absx. -/
def execEorAbsx (a : Word) (s : State) : Result := execRead (.eorAbsx a) eorEffect s

/-! ### BIT (R168) -/

/-- Z from A & M, N and V from M (R168). -/
def bitEffect (m : Byte) (s : State) : State := s.setFlags (bitTest s.a m s.flags)

/-- 0x24 BIT zp. -/
def execBitZp (nn : Byte) (s : State) : Result := execRead (.bitZp nn) bitEffect s
/-- 0x2C BIT abs. -/
def execBitAbs (a : Word) (s : State) : Result := execRead (.bitAbs a) bitEffect s

/-! ### CMP (R169) -/

/-- `Compare(A, M)` (R162, R169). -/
def cmpEffect (m : Byte) (s : State) : State := s.setFlags (compareFlags s.a m s.flags)

/-- 0xC1 CMP indx. -/
def execCmpIndx (nn : Byte) (s : State) : Result := execRead (.cmpIndx nn) cmpEffect s
/-- 0xC5 CMP zp. -/
def execCmpZp (nn : Byte) (s : State) : Result := execRead (.cmpZp nn) cmpEffect s
/-- 0xC9 CMP imm. -/
def execCmpImm (nn : Byte) (s : State) : Result := execRead (.cmpImm nn) cmpEffect s
/-- 0xCD CMP abs. -/
def execCmpAbs (a : Word) (s : State) : Result := execRead (.cmpAbs a) cmpEffect s
/-- 0xD1 CMP indy. -/
def execCmpIndy (nn : Byte) (s : State) : Result := execRead (.cmpIndy nn) cmpEffect s
/-- 0xD5 CMP zpx. -/
def execCmpZpx (nn : Byte) (s : State) : Result := execRead (.cmpZpx nn) cmpEffect s
/-- 0xD9 CMP absy. -/
def execCmpAbsy (a : Word) (s : State) : Result := execRead (.cmpAbsy a) cmpEffect s
/-- 0xDD CMP absx. -/
def execCmpAbsx (a : Word) (s : State) : Result := execRead (.cmpAbsx a) cmpEffect s

/-! ### CPX (R170) -/

/-- `Compare(X, M)` (R162, R170). -/
def cpxEffect (m : Byte) (s : State) : State := s.setFlags (compareFlags s.x m s.flags)

/-- 0xE0 CPX imm. -/
def execCpxImm (nn : Byte) (s : State) : Result := execRead (.cpxImm nn) cpxEffect s
/-- 0xE4 CPX zp. -/
def execCpxZp (nn : Byte) (s : State) : Result := execRead (.cpxZp nn) cpxEffect s
/-- 0xEC CPX abs. -/
def execCpxAbs (a : Word) (s : State) : Result := execRead (.cpxAbs a) cpxEffect s

/-! ### CPY (R171) -/

/-- `Compare(Y, M)` (R162, R171). -/
def cpyEffect (m : Byte) (s : State) : State := s.setFlags (compareFlags s.y m s.flags)

/-- 0xC0 CPY imm. -/
def execCpyImm (nn : Byte) (s : State) : Result := execRead (.cpyImm nn) cpyEffect s
/-- 0xC4 CPY zp. -/
def execCpyZp (nn : Byte) (s : State) : Result := execRead (.cpyZp nn) cpyEffect s
/-- 0xCC CPY abs. -/
def execCpyAbs (a : Word) (s : State) : Result := execRead (.cpyAbs a) cpyEffect s

/-! ### INC (R172) -/

/-- `r <- (M + 1) & 0xFF` (R172). -/
def incResult (m : Byte) (_s : State) : Byte := m + 1

/-- `SetZN(r)` (R172). -/
def incFlags (m : Byte) (s : State) : State := s.setZN (m + 1)

/-- 0xE6 INC zp. -/
def execIncZp (nn : Byte) (s : State) : Result := execRmw (.incZp nn) incResult incFlags s
/-- 0xEE INC abs. -/
def execIncAbs (a : Word) (s : State) : Result := execRmw (.incAbs a) incResult incFlags s
/-- 0xF6 INC zpx. -/
def execIncZpx (nn : Byte) (s : State) : Result := execRmw (.incZpx nn) incResult incFlags s
/-- 0xFE INC absx. -/
def execIncAbsx (a : Word) (s : State) : Result := execRmw (.incAbsx a) incResult incFlags s

/-! ### DEC (R173) -/

/-- `r <- (M - 1) mod 256` (R173). -/
def decResult (m : Byte) (_s : State) : Byte := m - 1

/-- `SetZN(r)` (R173). -/
def decFlags (m : Byte) (s : State) : State := s.setZN (m - 1)

/-- 0xC6 DEC zp. -/
def execDecZp (nn : Byte) (s : State) : Result := execRmw (.decZp nn) decResult decFlags s
/-- 0xCE DEC abs. -/
def execDecAbs (a : Word) (s : State) : Result := execRmw (.decAbs a) decResult decFlags s
/-- 0xD6 DEC zpx. -/
def execDecZpx (nn : Byte) (s : State) : Result := execRmw (.decZpx nn) decResult decFlags s
/-- 0xDE DEC absx. -/
def execDecAbsx (a : Word) (s : State) : Result := execRmw (.decAbsx a) decResult decFlags s

/-! ### INX (R174) -/

/-- `X <- X + 1 mod 256; SetZN(X)` (R174). -/
def inxEffect (s : State) : State := (s.setX (s.x + 1)).setZN (s.x + 1)

/-- 0xE8 INX imp. -/
def execInx (s : State) : Result := execImplied .inx inxEffect s

/-! ### INY (R175) -/

/-- `Y <- Y + 1 mod 256; SetZN(Y)` (R175). -/
def inyEffect (s : State) : State := (s.setY (s.y + 1)).setZN (s.y + 1)

/-- 0xC8 INY imp. -/
def execIny (s : State) : Result := execImplied .iny inyEffect s

/-! ### DEX (R176) -/

/-- `X <- X - 1 mod 256; SetZN(X)` (R176). -/
def dexEffect (s : State) : State := (s.setX (s.x - 1)).setZN (s.x - 1)

/-- 0xCA DEX imp. -/
def execDex (s : State) : Result := execImplied .dex dexEffect s

/-! ### DEY (R177) -/

/-- `Y <- Y - 1 mod 256; SetZN(Y)` (R177). -/
def deyEffect (s : State) : State := (s.setY (s.y - 1)).setZN (s.y - 1)

/-- 0x88 DEY imp. -/
def execDey (s : State) : Result := execImplied .dey deyEffect s

end Sys2Proof.Machine
end

