-- ==== Sys2Proof/Machine/Control.lean ====
section
/-! DEFINITION. Control transfer (spec 46). -/

namespace Sys2Proof.Machine

/-! ### BCC (R201) -/

/-- The condition `C == 0` (R201). -/
def bccTaken (s : State) : Bool := !s.flags.c

/-- 0x90 BCC rel. -/
def execBcc (nn : Byte) (s : State) : Result := execBranch (.bcc nn) bccTaken s

/-! ### BCS (R202) -/

/-- The condition `C == 1` (R202). -/
def bcsTaken (s : State) : Bool := s.flags.c

/-- 0xB0 BCS rel. -/
def execBcs (nn : Byte) (s : State) : Result := execBranch (.bcs nn) bcsTaken s

/-! ### BEQ (R203) -/

/-- The condition `Z == 1` (R203). -/
def beqTaken (s : State) : Bool := s.flags.z

/-- 0xF0 BEQ rel. -/
def execBeq (nn : Byte) (s : State) : Result := execBranch (.beq nn) beqTaken s

/-! ### BNE (R204) -/

/-- The condition `Z == 0` (R204). -/
def bneTaken (s : State) : Bool := !s.flags.z

/-- 0xD0 BNE rel. -/
def execBne (nn : Byte) (s : State) : Result := execBranch (.bne nn) bneTaken s

/-! ### BMI (R205) -/

/-- The condition `N == 1` (R205). -/
def bmiTaken (s : State) : Bool := s.flags.n

/-- 0x30 BMI rel. -/
def execBmi (nn : Byte) (s : State) : Result := execBranch (.bmi nn) bmiTaken s

/-! ### BPL (R206) -/

/-- The condition `N == 0` (R206). -/
def bplTaken (s : State) : Bool := !s.flags.n

/-- 0x10 BPL rel. -/
def execBpl (nn : Byte) (s : State) : Result := execBranch (.bpl nn) bplTaken s

/-! ### BVC (R207) -/

/-- The condition `V == 0` (R207). -/
def bvcTaken (s : State) : Bool := !s.flags.v

/-- 0x50 BVC rel. -/
def execBvc (nn : Byte) (s : State) : Result := execBranch (.bvc nn) bvcTaken s

/-! ### BVS (R208) -/

/-- The condition `V == 1` (R208). -/
def bvsTaken (s : State) : Bool := s.flags.v

/-- 0x70 BVS rel. -/
def execBvs (nn : Byte) (s : State) : Result := execBranch (.bvs nn) bvsTaken s

/-! ### JMP (R209) -/

/-- `PC <- target`; the indirect form has read its pointer with Read16Bug (R101, R209). -/
def jmpEffect (target : Word) (s : State) : Bus Unit := .ok ((), s.setPC target)

/-- 0x4C JMP abs. -/
def execJmpAbs (a : Word) (s : State) : Result := execJump (.jmpAbs a) jmpEffect s
/-- 0x6C JMP ind. -/
def execJmpInd (a : Word) (s : State) : Result := execJump (.jmpInd a) jmpEffect s

/-! ### JSR (R210) -/

/-- Push PC - 1, high byte first, then `PC <- target` (R210). -/
def jsrEffect (target : Word) (s : State) : Bus Unit :=
  andThen (push16 (s.pc - 1) s) fun _ s1 => .ok ((), s1.setPC target)

/-- 0x20 JSR abs. -/
def execJsr (a : Word) (s : State) : Result := execJump (.jsr a) jsrEffect s

/-! ### RTS (R211) -/

/-- `PC <- Pull16() + 1` (R211). -/
def rtsEffect (s : State) : Bus Unit :=
  andThen (pull16 s) fun w s1 => .ok ((), s1.setPC (w + 1))

/-- 0x60 RTS imp. -/
def execRts (s : State) : Result := execAccess .rts rtsEffect s

/-! ### RTI (R212) -/

/-- Return from the handler (R212, R265). -/
def rtiEffect (s : State) : Bus Unit := leaveBreak s

/-- 0x40 RTI imp. -/
def execRti (s : State) : Result := execAccess .rti rtiEffect s

/-! ### BRK (R213) -/

/-- Enter the handler; PC is past the opcode here, so PC + 1 is pc0 + 2 (R213). -/
def brkEffect (s : State) : Bus Unit := enterBreak (s.pc + 1) s

/-- 0x00 BRK imp. -/
def execBrk (s : State) : Result := execAccess .brk brkEffect s

end Sys2Proof.Machine
end

