-- ==== Sys2Proof/Machine/FlagOps.lean ====
section
/-! DEFINITION. Flag instructions and the official NOP (spec 47). -/

namespace Sys2Proof.Machine

/-! ### CLC (R220) -/

/-- `C <- 0` (R220). -/
def clcEffect (s : State) : State := s.setFlags { s.flags with c := false }

/-- 0x18 CLC imp. -/
def execClc (s : State) : Result := execImplied .clc clcEffect s

/-! ### SEC (R221) -/

/-- `C <- 1` (R221). -/
def secEffect (s : State) : State := s.setFlags { s.flags with c := true }

/-- 0x38 SEC imp. -/
def execSec (s : State) : Result := execImplied .sec secEffect s

/-! ### CLI (R222) -/

/-- `I <- 0` (R222). -/
def cliEffect (s : State) : State := s.setFlags { s.flags with i := false }

/-- 0x58 CLI imp. -/
def execCli (s : State) : Result := execImplied .cli cliEffect s

/-! ### SEI (R223) -/

/-- `I <- 1` (R223). -/
def seiEffect (s : State) : State := s.setFlags { s.flags with i := true }

/-- 0x78 SEI imp. -/
def execSei (s : State) : Result := execImplied .sei seiEffect s

/-! ### CLD (R224) -/

/-- `D <- 0` (R224). -/
def cldEffect (s : State) : State := s.setFlags { s.flags with d := false }

/-- 0xD8 CLD imp. -/
def execCld (s : State) : Result := execImplied .cld cldEffect s

/-! ### SED (R225) -/

/-- `D <- 1` (R225). -/
def sedEffect (s : State) : State := s.setFlags { s.flags with d := true }

/-- 0xF8 SED imp. -/
def execSed (s : State) : Result := execImplied .sed sedEffect s

/-! ### CLV (R226) -/

/-- `V <- 0` (R226). -/
def clvEffect (s : State) : State := s.setFlags { s.flags with v := false }

/-- 0xB8 CLV imp. -/
def execClv (s : State) : Result := execImplied .clv clvEffect s

/-! ### NOP (R227) -/

/-- Nothing besides the common step (R227, R231). -/
def nopEffect (s : State) : State := s

/-- 0xEA NOP imp. -/
def execNop (s : State) : Result := execImplied .nop nopEffect s

end Sys2Proof.Machine
end

