-- ==== Sys2Proof/Machine/LoadStore.lean ====
section
/-! DEFINITION. Loads, stores and register transfers (spec 42). A meaning runs the row of its instruction (`Instr.row`) through the
scheme of its access class. -/

namespace Sys2Proof.Machine

/-! ### LDA (R131) -/

/-- `A <- M; SetZN(A)` (R131). -/
def loadA (m : Byte) (s : State) : State := (s.setA m).setZN m

/-- 0xA1 LDA indx. -/
def execLdaIndx (nn : Byte) (s : State) : Result := execRead (.ldaIndx nn) loadA s
/-- 0xA5 LDA zp. -/
def execLdaZp (nn : Byte) (s : State) : Result := execRead (.ldaZp nn) loadA s
/-- 0xA9 LDA imm. -/
def execLdaImm (nn : Byte) (s : State) : Result := execRead (.ldaImm nn) loadA s
/-- 0xAD LDA abs. -/
def execLdaAbs (a : Word) (s : State) : Result := execRead (.ldaAbs a) loadA s
/-- 0xB1 LDA indy. -/
def execLdaIndy (nn : Byte) (s : State) : Result := execRead (.ldaIndy nn) loadA s
/-- 0xB5 LDA zpx. -/
def execLdaZpx (nn : Byte) (s : State) : Result := execRead (.ldaZpx nn) loadA s
/-- 0xB9 LDA absy. -/
def execLdaAbsy (a : Word) (s : State) : Result := execRead (.ldaAbsy a) loadA s
/-- 0xBD LDA absx. -/
def execLdaAbsx (a : Word) (s : State) : Result := execRead (.ldaAbsx a) loadA s

/-! ### LDX (R132) -/

/-- `X <- M; SetZN(X)` (R132). -/
def loadX (m : Byte) (s : State) : State := (s.setX m).setZN m

/-- 0xA2 LDX imm. -/
def execLdxImm (nn : Byte) (s : State) : Result := execRead (.ldxImm nn) loadX s
/-- 0xA6 LDX zp. -/
def execLdxZp (nn : Byte) (s : State) : Result := execRead (.ldxZp nn) loadX s
/-- 0xAE LDX abs. -/
def execLdxAbs (a : Word) (s : State) : Result := execRead (.ldxAbs a) loadX s
/-- 0xB6 LDX zpy. -/
def execLdxZpy (nn : Byte) (s : State) : Result := execRead (.ldxZpy nn) loadX s
/-- 0xBE LDX absy. -/
def execLdxAbsy (a : Word) (s : State) : Result := execRead (.ldxAbsy a) loadX s

/-! ### LDY (R133) -/

/-- `Y <- M; SetZN(Y)` (R133). -/
def loadY (m : Byte) (s : State) : State := (s.setY m).setZN m

/-- 0xA0 LDY imm. -/
def execLdyImm (nn : Byte) (s : State) : Result := execRead (.ldyImm nn) loadY s
/-- 0xA4 LDY zp. -/
def execLdyZp (nn : Byte) (s : State) : Result := execRead (.ldyZp nn) loadY s
/-- 0xAC LDY abs. -/
def execLdyAbs (a : Word) (s : State) : Result := execRead (.ldyAbs a) loadY s
/-- 0xB4 LDY zpx. -/
def execLdyZpx (nn : Byte) (s : State) : Result := execRead (.ldyZpx nn) loadY s
/-- 0xBC LDY absx. -/
def execLdyAbsx (a : Word) (s : State) : Result := execRead (.ldyAbsx a) loadY s

/-! ### STA (R134) -/

/-- The byte STA writes to EA (R134). -/
def storedA (s : State) : Byte := s.a

/-- 0x81 STA indx. -/
def execStaIndx (nn : Byte) (s : State) : Result := execWrite (.staIndx nn) storedA s
/-- 0x85 STA zp. -/
def execStaZp (nn : Byte) (s : State) : Result := execWrite (.staZp nn) storedA s
/-- 0x8D STA abs. -/
def execStaAbs (a : Word) (s : State) : Result := execWrite (.staAbs a) storedA s
/-- 0x91 STA indy. -/
def execStaIndy (nn : Byte) (s : State) : Result := execWrite (.staIndy nn) storedA s
/-- 0x95 STA zpx. -/
def execStaZpx (nn : Byte) (s : State) : Result := execWrite (.staZpx nn) storedA s
/-- 0x99 STA absy. -/
def execStaAbsy (a : Word) (s : State) : Result := execWrite (.staAbsy a) storedA s
/-- 0x9D STA absx. -/
def execStaAbsx (a : Word) (s : State) : Result := execWrite (.staAbsx a) storedA s

/-! ### STX (R135) -/

/-- The byte STX writes to EA (R135). -/
def storedX (s : State) : Byte := s.x

/-- 0x86 STX zp. -/
def execStxZp (nn : Byte) (s : State) : Result := execWrite (.stxZp nn) storedX s
/-- 0x8E STX abs. -/
def execStxAbs (a : Word) (s : State) : Result := execWrite (.stxAbs a) storedX s
/-- 0x96 STX zpy. -/
def execStxZpy (nn : Byte) (s : State) : Result := execWrite (.stxZpy nn) storedX s

/-! ### STY (R136) -/

/-- The byte STY writes to EA (R136). -/
def storedY (s : State) : Byte := s.y

/-- 0x84 STY zp. -/
def execStyZp (nn : Byte) (s : State) : Result := execWrite (.styZp nn) storedY s
/-- 0x8C STY abs. -/
def execStyAbs (a : Word) (s : State) : Result := execWrite (.styAbs a) storedY s
/-- 0x94 STY zpx. -/
def execStyZpx (nn : Byte) (s : State) : Result := execWrite (.styZpx nn) storedY s

/-! ### TAX (R137) -/

/-- `X <- A; SetZN(X)` (R137). -/
def taxEffect (s : State) : State := (s.setX s.a).setZN s.a

/-- 0xAA TAX imp. -/
def execTax (s : State) : Result := execImplied .tax taxEffect s

/-! ### TAY (R138) -/

/-- `Y <- A; SetZN(Y)` (R138). -/
def tayEffect (s : State) : State := (s.setY s.a).setZN s.a

/-- 0xA8 TAY imp. -/
def execTay (s : State) : Result := execImplied .tay tayEffect s

/-! ### TXA (R139) -/

/-- `A <- X; SetZN(A)` (R139). -/
def txaEffect (s : State) : State := (s.setA s.x).setZN s.x

/-- 0x8A TXA imp. -/
def execTxa (s : State) : Result := execImplied .txa txaEffect s

/-! ### TYA (R140) -/

/-- `A <- Y; SetZN(A)` (R140). -/
def tyaEffect (s : State) : State := (s.setA s.y).setZN s.y

/-- 0x98 TYA imp. -/
def execTya (s : State) : Result := execImplied .tya tyaEffect s

/-! ### TSX (R141) -/

/-- `X <- SP; SetZN(X)` (R141). -/
def tsxEffect (s : State) : State := (s.setX s.sp).setZN s.sp

/-- 0xBA TSX imp. -/
def execTsx (s : State) : Result := execImplied .tsx tsxEffect s

/-! ### TXS (R142) -/

/-- `SP <- X`; no flag is set (R142; 90 C4). -/
def txsEffect (s : State) : State := s.setSP s.x

/-- 0x9A TXS imp. -/
def execTxs (s : State) : Result := execImplied .txs txsEffect s

end Sys2Proof.Machine
end

