-- ==== Sys2Proof/Machine/Shift.lean ====
section
/-! DEFINITION. Shifts and rotates (spec 45). -/

namespace Sys2Proof.Machine

/-- `C <- c'` alone. -/
def State.setCarry (s : State) (c : Bool) : State := s.setFlags { s.flags with c := c }

/-- `A <- r; C <- c'; SetZN(r)` in accumulator mode (R191). -/
def shiftA (shift : Byte → Bool → Byte × Bool) (m : Byte) (s : State) : State :=
  let r := shift m s.flags.c
  ((s.setA r.1).setCarry r.2).setZN r.1

/-- The byte a memory shift writes to EA (R191). -/
def shiftResult (shift : Byte → Bool → Byte × Bool) (m : Byte) (s : State) : Byte := (shift m s.flags.c).1

/-- `C <- c'; SetZN(r)` after the write of a memory shift (R191). -/
def shiftFlags (shift : Byte → Bool → Byte × Bool) (m : Byte) (s : State) : State :=
  let r := shift m s.flags.c
  (s.setCarry r.2).setZN r.1

/-! ### ASL (R192) -/

/-- 0x06 ASL zp. -/
def execAslZp (nn : Byte) (s : State) : Result := execRmw (.aslZp nn) (shiftResult shiftAsl) (shiftFlags shiftAsl) s
/-- 0x0A ASL acc. -/
def execAslAcc (s : State) : Result := execRegister .aslAcc (shiftA shiftAsl) s
/-- 0x0E ASL abs. -/
def execAslAbs (a : Word) (s : State) : Result := execRmw (.aslAbs a) (shiftResult shiftAsl) (shiftFlags shiftAsl) s
/-- 0x16 ASL zpx. -/
def execAslZpx (nn : Byte) (s : State) : Result := execRmw (.aslZpx nn) (shiftResult shiftAsl) (shiftFlags shiftAsl) s
/-- 0x1E ASL absx. -/
def execAslAbsx (a : Word) (s : State) : Result := execRmw (.aslAbsx a) (shiftResult shiftAsl) (shiftFlags shiftAsl) s

/-! ### LSR (R193) -/

/-- 0x46 LSR zp. -/
def execLsrZp (nn : Byte) (s : State) : Result := execRmw (.lsrZp nn) (shiftResult shiftLsr) (shiftFlags shiftLsr) s
/-- 0x4A LSR acc. -/
def execLsrAcc (s : State) : Result := execRegister .lsrAcc (shiftA shiftLsr) s
/-- 0x4E LSR abs. -/
def execLsrAbs (a : Word) (s : State) : Result := execRmw (.lsrAbs a) (shiftResult shiftLsr) (shiftFlags shiftLsr) s
/-- 0x56 LSR zpx. -/
def execLsrZpx (nn : Byte) (s : State) : Result := execRmw (.lsrZpx nn) (shiftResult shiftLsr) (shiftFlags shiftLsr) s
/-- 0x5E LSR absx. -/
def execLsrAbsx (a : Word) (s : State) : Result := execRmw (.lsrAbsx a) (shiftResult shiftLsr) (shiftFlags shiftLsr) s

/-! ### ROL (R194) -/

/-- 0x26 ROL zp. -/
def execRolZp (nn : Byte) (s : State) : Result := execRmw (.rolZp nn) (shiftResult shiftRol) (shiftFlags shiftRol) s
/-- 0x2A ROL acc. -/
def execRolAcc (s : State) : Result := execRegister .rolAcc (shiftA shiftRol) s
/-- 0x2E ROL abs. -/
def execRolAbs (a : Word) (s : State) : Result := execRmw (.rolAbs a) (shiftResult shiftRol) (shiftFlags shiftRol) s
/-- 0x36 ROL zpx. -/
def execRolZpx (nn : Byte) (s : State) : Result := execRmw (.rolZpx nn) (shiftResult shiftRol) (shiftFlags shiftRol) s
/-- 0x3E ROL absx. -/
def execRolAbsx (a : Word) (s : State) : Result := execRmw (.rolAbsx a) (shiftResult shiftRol) (shiftFlags shiftRol) s

/-! ### ROR (R195) -/

/-- 0x66 ROR zp. -/
def execRorZp (nn : Byte) (s : State) : Result := execRmw (.rorZp nn) (shiftResult shiftRor) (shiftFlags shiftRor) s
/-- 0x6A ROR acc. -/
def execRorAcc (s : State) : Result := execRegister .rorAcc (shiftA shiftRor) s
/-- 0x6E ROR abs. -/
def execRorAbs (a : Word) (s : State) : Result := execRmw (.rorAbs a) (shiftResult shiftRor) (shiftFlags shiftRor) s
/-- 0x76 ROR zpx. -/
def execRorZpx (nn : Byte) (s : State) : Result := execRmw (.rorZpx nn) (shiftResult shiftRor) (shiftFlags shiftRor) s
/-- 0x7E ROR absx. -/
def execRorAbsx (a : Word) (s : State) : Result := execRmw (.rorAbsx a) (shiftResult shiftRor) (shiftFlags shiftRor) s

end Sys2Proof.Machine
end

