-- ==== Sys2Proof/Machine/Stack.lean ====
section
/-! DEFINITION. Stack instructions (spec 43). -/

namespace Sys2Proof.Machine

/-! ### PHA (R150) -/

/-- `Push(A)` (R150). -/
def phaEffect (s : State) : Bus Unit := push s.a s

/-- 0x48 PHA imp. -/
def execPha (s : State) : Result := execAccess .pha phaEffect s

/-! ### PHP (R151) -/

/-- `Push(Pack(1))` (R151). -/
def phpEffect (s : State) : Bus Unit := push (s.flags.pack true) s

/-- 0x08 PHP imp. -/
def execPhp (s : State) : Result := execAccess .php phpEffect s

/-! ### PLA (R152) -/

/-- `A <- Pull(); SetZN(A)` (R152). -/
def plaEffect (s : State) : Bus Unit :=
  andThen (pull s) fun v s1 => .ok ((), (s1.setA v).setZN v)

/-- 0x68 PLA imp. -/
def execPla (s : State) : Result := execAccess .pla plaEffect s

/-! ### PLP (R153) -/

/-- `Unpack(Pull())` (R153). -/
def plpEffect (s : State) : Bus Unit :=
  andThen (pull s) fun v s1 => .ok ((), s1.setFlags (Flags.unpack v))

/-- 0x28 PLP imp. -/
def execPlp (s : State) : Result := execAccess .plp plpEffect s

end Sys2Proof.Machine
end

