-- ==== Sys2Proof/Machine/Unofficial.lean ====
section
/-! DEFINITION. Unofficial opcodes and the unimplemented bytes (spec 48). SBC 0xEB stands with SBC in Alu.lean. -/

namespace Sys2Proof.Machine

/-! ### NOP, unofficial (R231 implied; R232 with an operand) -/

/-- The byte read, or the operand, is discarded (R232). -/
def nopOperandEffect (_m : Byte) (s : State) : State := s

/-- 0x04 NOP zp. -/
def execNopZp04 (nn : Byte) (s : State) : Result := execRead (.nopZp04 nn) nopOperandEffect s
/-- 0x0C NOP abs. -/
def execNopAbs (a : Word) (s : State) : Result := execRead (.nopAbs a) nopOperandEffect s
/-- 0x14 NOP zpx. -/
def execNopZpx14 (nn : Byte) (s : State) : Result := execRead (.nopZpx14 nn) nopOperandEffect s
/-- 0x1A NOP imp. -/
def execNop1A (s : State) : Result := execImplied .nop1A nopEffect s
/-- 0x1C NOP absx. -/
def execNopAbsx1C (a : Word) (s : State) : Result := execRead (.nopAbsx1C a) nopOperandEffect s
/-- 0x34 NOP zpx. -/
def execNopZpx34 (nn : Byte) (s : State) : Result := execRead (.nopZpx34 nn) nopOperandEffect s
/-- 0x3A NOP imp. -/
def execNop3A (s : State) : Result := execImplied .nop3A nopEffect s
/-- 0x3C NOP absx. -/
def execNopAbsx3C (a : Word) (s : State) : Result := execRead (.nopAbsx3C a) nopOperandEffect s
/-- 0x44 NOP zp. -/
def execNopZp44 (nn : Byte) (s : State) : Result := execRead (.nopZp44 nn) nopOperandEffect s
/-- 0x54 NOP zpx. -/
def execNopZpx54 (nn : Byte) (s : State) : Result := execRead (.nopZpx54 nn) nopOperandEffect s
/-- 0x5A NOP imp. -/
def execNop5A (s : State) : Result := execImplied .nop5A nopEffect s
/-- 0x5C NOP absx. -/
def execNopAbsx5C (a : Word) (s : State) : Result := execRead (.nopAbsx5C a) nopOperandEffect s
/-- 0x64 NOP zp. -/
def execNopZp64 (nn : Byte) (s : State) : Result := execRead (.nopZp64 nn) nopOperandEffect s
/-- 0x74 NOP zpx. -/
def execNopZpx74 (nn : Byte) (s : State) : Result := execRead (.nopZpx74 nn) nopOperandEffect s
/-- 0x7A NOP imp. -/
def execNop7A (s : State) : Result := execImplied .nop7A nopEffect s
/-- 0x7C NOP absx. -/
def execNopAbsx7C (a : Word) (s : State) : Result := execRead (.nopAbsx7C a) nopOperandEffect s
/-- 0x80 NOP imm. -/
def execNopImm80 (nn : Byte) (s : State) : Result := execRead (.nopImm80 nn) nopOperandEffect s
/-- 0x82 NOP imm. -/
def execNopImm82 (nn : Byte) (s : State) : Result := execRead (.nopImm82 nn) nopOperandEffect s
/-- 0x89 NOP imm. -/
def execNopImm89 (nn : Byte) (s : State) : Result := execRead (.nopImm89 nn) nopOperandEffect s
/-- 0xC2 NOP imm. -/
def execNopImmC2 (nn : Byte) (s : State) : Result := execRead (.nopImmC2 nn) nopOperandEffect s
/-- 0xD4 NOP zpx. -/
def execNopZpxD4 (nn : Byte) (s : State) : Result := execRead (.nopZpxD4 nn) nopOperandEffect s
/-- 0xDA NOP imp. -/
def execNopDA (s : State) : Result := execImplied .nopDA nopEffect s
/-- 0xDC NOP absx. -/
def execNopAbsxDC (a : Word) (s : State) : Result := execRead (.nopAbsxDC a) nopOperandEffect s
/-- 0xE2 NOP imm. -/
def execNopImmE2 (nn : Byte) (s : State) : Result := execRead (.nopImmE2 nn) nopOperandEffect s
/-- 0xF4 NOP zpx. -/
def execNopZpxF4 (nn : Byte) (s : State) : Result := execRead (.nopZpxF4 nn) nopOperandEffect s
/-- 0xFA NOP imp. -/
def execNopFA (s : State) : Result := execImplied .nopFA nopEffect s
/-- 0xFC NOP absx. -/
def execNopAbsxFC (a : Word) (s : State) : Result := execRead (.nopAbsxFC a) nopOperandEffect s

/-! ### LAX (R233) -/

/-- `A <- M; X <- M; SetZN(M)` (R233). -/
def laxEffect (m : Byte) (s : State) : State := ((s.setA m).setX m).setZN m

/-- 0xA3 LAX indx. -/
def execLaxIndx (nn : Byte) (s : State) : Result := execRead (.laxIndx nn) laxEffect s
/-- 0xA7 LAX zp. -/
def execLaxZp (nn : Byte) (s : State) : Result := execRead (.laxZp nn) laxEffect s
/-- 0xAF LAX abs. -/
def execLaxAbs (a : Word) (s : State) : Result := execRead (.laxAbs a) laxEffect s
/-- 0xB3 LAX indy. -/
def execLaxIndy (nn : Byte) (s : State) : Result := execRead (.laxIndy nn) laxEffect s
/-- 0xB7 LAX zpy. -/
def execLaxZpy (nn : Byte) (s : State) : Result := execRead (.laxZpy nn) laxEffect s
/-- 0xBF LAX absy. -/
def execLaxAbsy (a : Word) (s : State) : Result := execRead (.laxAbsy a) laxEffect s

/-! ### SAX (R234) -/

/-- The byte SAX writes to EA: `A & X` (R234). -/
def storedAX (s : State) : Byte := s.a &&& s.x

/-- 0x83 SAX indx. -/
def execSaxIndx (nn : Byte) (s : State) : Result := execWrite (.saxIndx nn) storedAX s
/-- 0x87 SAX zp. -/
def execSaxZp (nn : Byte) (s : State) : Result := execWrite (.saxZp nn) storedAX s
/-- 0x8F SAX abs. -/
def execSaxAbs (a : Word) (s : State) : Result := execWrite (.saxAbs a) storedAX s
/-- 0x97 SAX zpy. -/
def execSaxZpy (nn : Byte) (s : State) : Result := execWrite (.saxZpy nn) storedAX s

/-! ### DCP (R236) -/

/-- `Compare(A, r)` with r the decremented byte (R230 a, R236). -/
def dcpEffect (m : Byte) (s : State) : State := cmpEffect (m - 1) s

/-- 0xC3 DCP indx. -/
def execDcpIndx (nn : Byte) (s : State) : Result := execRmw (.dcpIndx nn) decResult dcpEffect s
/-- 0xC7 DCP zp. -/
def execDcpZp (nn : Byte) (s : State) : Result := execRmw (.dcpZp nn) decResult dcpEffect s
/-- 0xCF DCP abs. -/
def execDcpAbs (a : Word) (s : State) : Result := execRmw (.dcpAbs a) decResult dcpEffect s
/-- 0xD3 DCP indy. -/
def execDcpIndy (nn : Byte) (s : State) : Result := execRmw (.dcpIndy nn) decResult dcpEffect s
/-- 0xD7 DCP zpx. -/
def execDcpZpx (nn : Byte) (s : State) : Result := execRmw (.dcpZpx nn) decResult dcpEffect s
/-- 0xDB DCP absy. -/
def execDcpAbsy (a : Word) (s : State) : Result := execRmw (.dcpAbsy a) decResult dcpEffect s
/-- 0xDF DCP absx. -/
def execDcpAbsx (a : Word) (s : State) : Result := execRmw (.dcpAbsx a) decResult dcpEffect s

/-! ### ISB (R237) -/

/-- `A <- SubCore(A, r, C)` with r the incremented byte (R230 a, R237). -/
def isbEffect (m : Byte) (s : State) : State := sbcEffect (m + 1) s

/-- 0xE3 ISB indx. -/
def execIsbIndx (nn : Byte) (s : State) : Result := execRmw (.isbIndx nn) incResult isbEffect s
/-- 0xE7 ISB zp. -/
def execIsbZp (nn : Byte) (s : State) : Result := execRmw (.isbZp nn) incResult isbEffect s
/-- 0xEF ISB abs. -/
def execIsbAbs (a : Word) (s : State) : Result := execRmw (.isbAbs a) incResult isbEffect s
/-- 0xF3 ISB indy. -/
def execIsbIndy (nn : Byte) (s : State) : Result := execRmw (.isbIndy nn) incResult isbEffect s
/-- 0xF7 ISB zpx. -/
def execIsbZpx (nn : Byte) (s : State) : Result := execRmw (.isbZpx nn) incResult isbEffect s
/-- 0xFB ISB absy. -/
def execIsbAbsy (a : Word) (s : State) : Result := execRmw (.isbAbsy a) incResult isbEffect s
/-- 0xFF ISB absx. -/
def execIsbAbsx (a : Word) (s : State) : Result := execRmw (.isbAbsx a) incResult isbEffect s

/-- The second half of a shift combination: `C <- c'`, then the accumulator operation on r (R230 a, b). -/
def shiftThen (shift : Byte → Bool → Byte × Bool) (f : Byte → State → State) (m : Byte) (s : State) : State :=
  let r := shift m s.flags.c
  f r.1 (s.setCarry r.2)

/-! ### SLO (R238) -/

/-- Shift left, then ORA (R238). -/
def sloEffect (m : Byte) (s : State) : State := shiftThen shiftAsl oraEffect m s

/-- 0x03 SLO indx. -/
def execSloIndx (nn : Byte) (s : State) : Result := execRmw (.sloIndx nn) (shiftResult shiftAsl) sloEffect s
/-- 0x07 SLO zp. -/
def execSloZp (nn : Byte) (s : State) : Result := execRmw (.sloZp nn) (shiftResult shiftAsl) sloEffect s
/-- 0x0F SLO abs. -/
def execSloAbs (a : Word) (s : State) : Result := execRmw (.sloAbs a) (shiftResult shiftAsl) sloEffect s
/-- 0x13 SLO indy. -/
def execSloIndy (nn : Byte) (s : State) : Result := execRmw (.sloIndy nn) (shiftResult shiftAsl) sloEffect s
/-- 0x17 SLO zpx. -/
def execSloZpx (nn : Byte) (s : State) : Result := execRmw (.sloZpx nn) (shiftResult shiftAsl) sloEffect s
/-- 0x1B SLO absy. -/
def execSloAbsy (a : Word) (s : State) : Result := execRmw (.sloAbsy a) (shiftResult shiftAsl) sloEffect s
/-- 0x1F SLO absx. -/
def execSloAbsx (a : Word) (s : State) : Result := execRmw (.sloAbsx a) (shiftResult shiftAsl) sloEffect s

/-! ### RLA (R239) -/

/-- Rotate left, then AND (R239). -/
def rlaEffect (m : Byte) (s : State) : State := shiftThen shiftRol andEffect m s

/-- 0x23 RLA indx. -/
def execRlaIndx (nn : Byte) (s : State) : Result := execRmw (.rlaIndx nn) (shiftResult shiftRol) rlaEffect s
/-- 0x27 RLA zp. -/
def execRlaZp (nn : Byte) (s : State) : Result := execRmw (.rlaZp nn) (shiftResult shiftRol) rlaEffect s
/-- 0x2F RLA abs. -/
def execRlaAbs (a : Word) (s : State) : Result := execRmw (.rlaAbs a) (shiftResult shiftRol) rlaEffect s
/-- 0x33 RLA indy. -/
def execRlaIndy (nn : Byte) (s : State) : Result := execRmw (.rlaIndy nn) (shiftResult shiftRol) rlaEffect s
/-- 0x37 RLA zpx. -/
def execRlaZpx (nn : Byte) (s : State) : Result := execRmw (.rlaZpx nn) (shiftResult shiftRol) rlaEffect s
/-- 0x3B RLA absy. -/
def execRlaAbsy (a : Word) (s : State) : Result := execRmw (.rlaAbsy a) (shiftResult shiftRol) rlaEffect s
/-- 0x3F RLA absx. -/
def execRlaAbsx (a : Word) (s : State) : Result := execRmw (.rlaAbsx a) (shiftResult shiftRol) rlaEffect s

/-! ### SRE (R240) -/

/-- Shift right, then EOR (R240). -/
def sreEffect (m : Byte) (s : State) : State := shiftThen shiftLsr eorEffect m s

/-- 0x43 SRE indx. -/
def execSreIndx (nn : Byte) (s : State) : Result := execRmw (.sreIndx nn) (shiftResult shiftLsr) sreEffect s
/-- 0x47 SRE zp. -/
def execSreZp (nn : Byte) (s : State) : Result := execRmw (.sreZp nn) (shiftResult shiftLsr) sreEffect s
/-- 0x4F SRE abs. -/
def execSreAbs (a : Word) (s : State) : Result := execRmw (.sreAbs a) (shiftResult shiftLsr) sreEffect s
/-- 0x53 SRE indy. -/
def execSreIndy (nn : Byte) (s : State) : Result := execRmw (.sreIndy nn) (shiftResult shiftLsr) sreEffect s
/-- 0x57 SRE zpx. -/
def execSreZpx (nn : Byte) (s : State) : Result := execRmw (.sreZpx nn) (shiftResult shiftLsr) sreEffect s
/-- 0x5B SRE absy. -/
def execSreAbsy (a : Word) (s : State) : Result := execRmw (.sreAbsy a) (shiftResult shiftLsr) sreEffect s
/-- 0x5F SRE absx. -/
def execSreAbsx (a : Word) (s : State) : Result := execRmw (.sreAbsx a) (shiftResult shiftLsr) sreEffect s

/-! ### RRA (R241) -/

/-- Rotate right, then ADC; the add's carry-in is the rotate's carry-out (R241). -/
def rraEffect (m : Byte) (s : State) : State := shiftThen shiftRor adcEffect m s

/-- 0x63 RRA indx. -/
def execRraIndx (nn : Byte) (s : State) : Result := execRmw (.rraIndx nn) (shiftResult shiftRor) rraEffect s
/-- 0x67 RRA zp. -/
def execRraZp (nn : Byte) (s : State) : Result := execRmw (.rraZp nn) (shiftResult shiftRor) rraEffect s
/-- 0x6F RRA abs. -/
def execRraAbs (a : Word) (s : State) : Result := execRmw (.rraAbs a) (shiftResult shiftRor) rraEffect s
/-- 0x73 RRA indy. -/
def execRraIndy (nn : Byte) (s : State) : Result := execRmw (.rraIndy nn) (shiftResult shiftRor) rraEffect s
/-- 0x77 RRA zpx. -/
def execRraZpx (nn : Byte) (s : State) : Result := execRmw (.rraZpx nn) (shiftResult shiftRor) rraEffect s
/-- 0x7B RRA absy. -/
def execRraAbsy (a : Word) (s : State) : Result := execRmw (.rraAbsy a) (shiftResult shiftRor) rraEffect s
/-- 0x7F RRA absx. -/
def execRraAbsx (a : Word) (s : State) : Result := execRmw (.rraAbsx a) (shiftResult shiftRor) rraEffect s

/-! ### The 25 unimplemented bytes (R76, R118, R242) -/

/-- `raise Fault(UnknownOpcode, pc0, op)`: the fetch is the only access, and PC has not advanced (R118, R242). -/
def unknownOpcode (i : Instr) (s : State) : Result :=
  .fault { kind := .unknownOpcode s.pc i.row.opcode, left := s }

/-- 0x02 UNIMPLEMENTED none. -/
def execUnimplemented02 (s : State) : Result := unknownOpcode .unimplemented02 s
/-- 0x0B UNIMPLEMENTED none. -/
def execUnimplemented0B (s : State) : Result := unknownOpcode .unimplemented0B s
/-- 0x12 UNIMPLEMENTED none. -/
def execUnimplemented12 (s : State) : Result := unknownOpcode .unimplemented12 s
/-- 0x22 UNIMPLEMENTED none. -/
def execUnimplemented22 (s : State) : Result := unknownOpcode .unimplemented22 s
/-- 0x2B UNIMPLEMENTED none. -/
def execUnimplemented2B (s : State) : Result := unknownOpcode .unimplemented2B s
/-- 0x32 UNIMPLEMENTED none. -/
def execUnimplemented32 (s : State) : Result := unknownOpcode .unimplemented32 s
/-- 0x42 UNIMPLEMENTED none. -/
def execUnimplemented42 (s : State) : Result := unknownOpcode .unimplemented42 s
/-- 0x4B UNIMPLEMENTED none. -/
def execUnimplemented4B (s : State) : Result := unknownOpcode .unimplemented4B s
/-- 0x52 UNIMPLEMENTED none. -/
def execUnimplemented52 (s : State) : Result := unknownOpcode .unimplemented52 s
/-- 0x62 UNIMPLEMENTED none. -/
def execUnimplemented62 (s : State) : Result := unknownOpcode .unimplemented62 s
/-- 0x6B UNIMPLEMENTED none. -/
def execUnimplemented6B (s : State) : Result := unknownOpcode .unimplemented6B s
/-- 0x72 UNIMPLEMENTED none. -/
def execUnimplemented72 (s : State) : Result := unknownOpcode .unimplemented72 s
/-- 0x8B UNIMPLEMENTED none. -/
def execUnimplemented8B (s : State) : Result := unknownOpcode .unimplemented8B s
/-- 0x92 UNIMPLEMENTED none. -/
def execUnimplemented92 (s : State) : Result := unknownOpcode .unimplemented92 s
/-- 0x93 UNIMPLEMENTED none. -/
def execUnimplemented93 (s : State) : Result := unknownOpcode .unimplemented93 s
/-- 0x9B UNIMPLEMENTED none. -/
def execUnimplemented9B (s : State) : Result := unknownOpcode .unimplemented9B s
/-- 0x9C UNIMPLEMENTED none. -/
def execUnimplemented9C (s : State) : Result := unknownOpcode .unimplemented9C s
/-- 0x9E UNIMPLEMENTED none. -/
def execUnimplemented9E (s : State) : Result := unknownOpcode .unimplemented9E s
/-- 0x9F UNIMPLEMENTED none. -/
def execUnimplemented9F (s : State) : Result := unknownOpcode .unimplemented9F s
/-- 0xAB UNIMPLEMENTED none. -/
def execUnimplementedAB (s : State) : Result := unknownOpcode .unimplementedAB s
/-- 0xB2 UNIMPLEMENTED none. -/
def execUnimplementedB2 (s : State) : Result := unknownOpcode .unimplementedB2 s
/-- 0xBB UNIMPLEMENTED none. -/
def execUnimplementedBB (s : State) : Result := unknownOpcode .unimplementedBB s
/-- 0xCB UNIMPLEMENTED none. -/
def execUnimplementedCB (s : State) : Result := unknownOpcode .unimplementedCB s
/-- 0xD2 UNIMPLEMENTED none. -/
def execUnimplementedD2 (s : State) : Result := unknownOpcode .unimplementedD2 s
/-- 0xF2 UNIMPLEMENTED none. -/
def execUnimplementedF2 (s : State) : Result := unknownOpcode .unimplementedF2 s

end Sys2Proof.Machine
end

