-- ==== Sys2Proof/Machine/Dispatch.lean ====
section
/-! DEFINITION. exec: one arm per row of the opcode table (R73, R116). The state's PC is the address of the opcode. -/

namespace Sys2Proof.Machine

def exec (i : Instr) (s : State) : Host.Outcome State Fault Refusal :=
  match i with
  | .oraIndx nn => Sys2Proof.Machine.execOraIndx nn s
  | .sloIndx nn => Sys2Proof.Machine.execSloIndx nn s
  | .nopZp04 nn => Sys2Proof.Machine.execNopZp04 nn s
  | .oraZp nn => Sys2Proof.Machine.execOraZp nn s
  | .aslZp nn => Sys2Proof.Machine.execAslZp nn s
  | .sloZp nn => Sys2Proof.Machine.execSloZp nn s
  | .oraImm nn => Sys2Proof.Machine.execOraImm nn s
  | .nopAbs a => Sys2Proof.Machine.execNopAbs a s
  | .oraAbs a => Sys2Proof.Machine.execOraAbs a s
  | .aslAbs a => Sys2Proof.Machine.execAslAbs a s
  | .sloAbs a => Sys2Proof.Machine.execSloAbs a s
  | .bpl nn => Sys2Proof.Machine.execBpl nn s
  | .oraIndy nn => Sys2Proof.Machine.execOraIndy nn s
  | .sloIndy nn => Sys2Proof.Machine.execSloIndy nn s
  | .nopZpx14 nn => Sys2Proof.Machine.execNopZpx14 nn s
  | .oraZpx nn => Sys2Proof.Machine.execOraZpx nn s
  | .aslZpx nn => Sys2Proof.Machine.execAslZpx nn s
  | .sloZpx nn => Sys2Proof.Machine.execSloZpx nn s
  | .oraAbsy a => Sys2Proof.Machine.execOraAbsy a s
  | .sloAbsy a => Sys2Proof.Machine.execSloAbsy a s
  | .nopAbsx1C a => Sys2Proof.Machine.execNopAbsx1C a s
  | .oraAbsx a => Sys2Proof.Machine.execOraAbsx a s
  | .aslAbsx a => Sys2Proof.Machine.execAslAbsx a s
  | .sloAbsx a => Sys2Proof.Machine.execSloAbsx a s
  | .jsr a => Sys2Proof.Machine.execJsr a s
  | .andIndx nn => Sys2Proof.Machine.execAndIndx nn s
  | .rlaIndx nn => Sys2Proof.Machine.execRlaIndx nn s
  | .bitZp nn => Sys2Proof.Machine.execBitZp nn s
  | .andZp nn => Sys2Proof.Machine.execAndZp nn s
  | .rolZp nn => Sys2Proof.Machine.execRolZp nn s
  | .rlaZp nn => Sys2Proof.Machine.execRlaZp nn s
  | .andImm nn => Sys2Proof.Machine.execAndImm nn s
  | .bitAbs a => Sys2Proof.Machine.execBitAbs a s
  | .andAbs a => Sys2Proof.Machine.execAndAbs a s
  | .rolAbs a => Sys2Proof.Machine.execRolAbs a s
  | .rlaAbs a => Sys2Proof.Machine.execRlaAbs a s
  | .bmi nn => Sys2Proof.Machine.execBmi nn s
  | .andIndy nn => Sys2Proof.Machine.execAndIndy nn s
  | .rlaIndy nn => Sys2Proof.Machine.execRlaIndy nn s
  | .nopZpx34 nn => Sys2Proof.Machine.execNopZpx34 nn s
  | .andZpx nn => Sys2Proof.Machine.execAndZpx nn s
  | .rolZpx nn => Sys2Proof.Machine.execRolZpx nn s
  | .rlaZpx nn => Sys2Proof.Machine.execRlaZpx nn s
  | .andAbsy a => Sys2Proof.Machine.execAndAbsy a s
  | .rlaAbsy a => Sys2Proof.Machine.execRlaAbsy a s
  | .nopAbsx3C a => Sys2Proof.Machine.execNopAbsx3C a s
  | .andAbsx a => Sys2Proof.Machine.execAndAbsx a s
  | .rolAbsx a => Sys2Proof.Machine.execRolAbsx a s
  | .rlaAbsx a => Sys2Proof.Machine.execRlaAbsx a s
  | .eorIndx nn => Sys2Proof.Machine.execEorIndx nn s
  | .sreIndx nn => Sys2Proof.Machine.execSreIndx nn s
  | .nopZp44 nn => Sys2Proof.Machine.execNopZp44 nn s
  | .eorZp nn => Sys2Proof.Machine.execEorZp nn s
  | .lsrZp nn => Sys2Proof.Machine.execLsrZp nn s
  | .sreZp nn => Sys2Proof.Machine.execSreZp nn s
  | .eorImm nn => Sys2Proof.Machine.execEorImm nn s
  | .jmpAbs a => Sys2Proof.Machine.execJmpAbs a s
  | .eorAbs a => Sys2Proof.Machine.execEorAbs a s
  | .lsrAbs a => Sys2Proof.Machine.execLsrAbs a s
  | .sreAbs a => Sys2Proof.Machine.execSreAbs a s
  | .bvc nn => Sys2Proof.Machine.execBvc nn s
  | .eorIndy nn => Sys2Proof.Machine.execEorIndy nn s
  | .sreIndy nn => Sys2Proof.Machine.execSreIndy nn s
  | .nopZpx54 nn => Sys2Proof.Machine.execNopZpx54 nn s
  | .eorZpx nn => Sys2Proof.Machine.execEorZpx nn s
  | .lsrZpx nn => Sys2Proof.Machine.execLsrZpx nn s
  | .sreZpx nn => Sys2Proof.Machine.execSreZpx nn s
  | .eorAbsy a => Sys2Proof.Machine.execEorAbsy a s
  | .sreAbsy a => Sys2Proof.Machine.execSreAbsy a s
  | .nopAbsx5C a => Sys2Proof.Machine.execNopAbsx5C a s
  | .eorAbsx a => Sys2Proof.Machine.execEorAbsx a s
  | .lsrAbsx a => Sys2Proof.Machine.execLsrAbsx a s
  | .sreAbsx a => Sys2Proof.Machine.execSreAbsx a s
  | .adcIndx nn => Sys2Proof.Machine.execAdcIndx nn s
  | .rraIndx nn => Sys2Proof.Machine.execRraIndx nn s
  | .nopZp64 nn => Sys2Proof.Machine.execNopZp64 nn s
  | .adcZp nn => Sys2Proof.Machine.execAdcZp nn s
  | .rorZp nn => Sys2Proof.Machine.execRorZp nn s
  | .rraZp nn => Sys2Proof.Machine.execRraZp nn s
  | .adcImm nn => Sys2Proof.Machine.execAdcImm nn s
  | .jmpInd a => Sys2Proof.Machine.execJmpInd a s
  | .adcAbs a => Sys2Proof.Machine.execAdcAbs a s
  | .rorAbs a => Sys2Proof.Machine.execRorAbs a s
  | .rraAbs a => Sys2Proof.Machine.execRraAbs a s
  | .bvs nn => Sys2Proof.Machine.execBvs nn s
  | .adcIndy nn => Sys2Proof.Machine.execAdcIndy nn s
  | .rraIndy nn => Sys2Proof.Machine.execRraIndy nn s
  | .nopZpx74 nn => Sys2Proof.Machine.execNopZpx74 nn s
  | .adcZpx nn => Sys2Proof.Machine.execAdcZpx nn s
  | .rorZpx nn => Sys2Proof.Machine.execRorZpx nn s
  | .rraZpx nn => Sys2Proof.Machine.execRraZpx nn s
  | .adcAbsy a => Sys2Proof.Machine.execAdcAbsy a s
  | .rraAbsy a => Sys2Proof.Machine.execRraAbsy a s
  | .nopAbsx7C a => Sys2Proof.Machine.execNopAbsx7C a s
  | .adcAbsx a => Sys2Proof.Machine.execAdcAbsx a s
  | .rorAbsx a => Sys2Proof.Machine.execRorAbsx a s
  | .rraAbsx a => Sys2Proof.Machine.execRraAbsx a s
  | .nopImm80 nn => Sys2Proof.Machine.execNopImm80 nn s
  | .staIndx nn => Sys2Proof.Machine.execStaIndx nn s
  | .nopImm82 nn => Sys2Proof.Machine.execNopImm82 nn s
  | .saxIndx nn => Sys2Proof.Machine.execSaxIndx nn s
  | .styZp nn => Sys2Proof.Machine.execStyZp nn s
  | .staZp nn => Sys2Proof.Machine.execStaZp nn s
  | .stxZp nn => Sys2Proof.Machine.execStxZp nn s
  | .saxZp nn => Sys2Proof.Machine.execSaxZp nn s
  | .nopImm89 nn => Sys2Proof.Machine.execNopImm89 nn s
  | .styAbs a => Sys2Proof.Machine.execStyAbs a s
  | .staAbs a => Sys2Proof.Machine.execStaAbs a s
  | .stxAbs a => Sys2Proof.Machine.execStxAbs a s
  | .saxAbs a => Sys2Proof.Machine.execSaxAbs a s
  | .bcc nn => Sys2Proof.Machine.execBcc nn s
  | .staIndy nn => Sys2Proof.Machine.execStaIndy nn s
  | .styZpx nn => Sys2Proof.Machine.execStyZpx nn s
  | .staZpx nn => Sys2Proof.Machine.execStaZpx nn s
  | .stxZpy nn => Sys2Proof.Machine.execStxZpy nn s
  | .saxZpy nn => Sys2Proof.Machine.execSaxZpy nn s
  | .staAbsy a => Sys2Proof.Machine.execStaAbsy a s
  | .staAbsx a => Sys2Proof.Machine.execStaAbsx a s
  | .ldyImm nn => Sys2Proof.Machine.execLdyImm nn s
  | .ldaIndx nn => Sys2Proof.Machine.execLdaIndx nn s
  | .ldxImm nn => Sys2Proof.Machine.execLdxImm nn s
  | .laxIndx nn => Sys2Proof.Machine.execLaxIndx nn s
  | .ldyZp nn => Sys2Proof.Machine.execLdyZp nn s
  | .ldaZp nn => Sys2Proof.Machine.execLdaZp nn s
  | .ldxZp nn => Sys2Proof.Machine.execLdxZp nn s
  | .laxZp nn => Sys2Proof.Machine.execLaxZp nn s
  | .ldaImm nn => Sys2Proof.Machine.execLdaImm nn s
  | .ldyAbs a => Sys2Proof.Machine.execLdyAbs a s
  | .ldaAbs a => Sys2Proof.Machine.execLdaAbs a s
  | .ldxAbs a => Sys2Proof.Machine.execLdxAbs a s
  | .laxAbs a => Sys2Proof.Machine.execLaxAbs a s
  | .bcs nn => Sys2Proof.Machine.execBcs nn s
  | .ldaIndy nn => Sys2Proof.Machine.execLdaIndy nn s
  | .laxIndy nn => Sys2Proof.Machine.execLaxIndy nn s
  | .ldyZpx nn => Sys2Proof.Machine.execLdyZpx nn s
  | .ldaZpx nn => Sys2Proof.Machine.execLdaZpx nn s
  | .ldxZpy nn => Sys2Proof.Machine.execLdxZpy nn s
  | .laxZpy nn => Sys2Proof.Machine.execLaxZpy nn s
  | .ldaAbsy a => Sys2Proof.Machine.execLdaAbsy a s
  | .ldyAbsx a => Sys2Proof.Machine.execLdyAbsx a s
  | .ldaAbsx a => Sys2Proof.Machine.execLdaAbsx a s
  | .ldxAbsy a => Sys2Proof.Machine.execLdxAbsy a s
  | .laxAbsy a => Sys2Proof.Machine.execLaxAbsy a s
  | .cpyImm nn => Sys2Proof.Machine.execCpyImm nn s
  | .cmpIndx nn => Sys2Proof.Machine.execCmpIndx nn s
  | .nopImmC2 nn => Sys2Proof.Machine.execNopImmC2 nn s
  | .dcpIndx nn => Sys2Proof.Machine.execDcpIndx nn s
  | .cpyZp nn => Sys2Proof.Machine.execCpyZp nn s
  | .cmpZp nn => Sys2Proof.Machine.execCmpZp nn s
  | .decZp nn => Sys2Proof.Machine.execDecZp nn s
  | .dcpZp nn => Sys2Proof.Machine.execDcpZp nn s
  | .cmpImm nn => Sys2Proof.Machine.execCmpImm nn s
  | .cpyAbs a => Sys2Proof.Machine.execCpyAbs a s
  | .cmpAbs a => Sys2Proof.Machine.execCmpAbs a s
  | .decAbs a => Sys2Proof.Machine.execDecAbs a s
  | .dcpAbs a => Sys2Proof.Machine.execDcpAbs a s
  | .bne nn => Sys2Proof.Machine.execBne nn s
  | .cmpIndy nn => Sys2Proof.Machine.execCmpIndy nn s
  | .dcpIndy nn => Sys2Proof.Machine.execDcpIndy nn s
  | .nopZpxD4 nn => Sys2Proof.Machine.execNopZpxD4 nn s
  | .cmpZpx nn => Sys2Proof.Machine.execCmpZpx nn s
  | .decZpx nn => Sys2Proof.Machine.execDecZpx nn s
  | .dcpZpx nn => Sys2Proof.Machine.execDcpZpx nn s
  | .cmpAbsy a => Sys2Proof.Machine.execCmpAbsy a s
  | .dcpAbsy a => Sys2Proof.Machine.execDcpAbsy a s
  | .nopAbsxDC a => Sys2Proof.Machine.execNopAbsxDC a s
  | .cmpAbsx a => Sys2Proof.Machine.execCmpAbsx a s
  | .decAbsx a => Sys2Proof.Machine.execDecAbsx a s
  | .dcpAbsx a => Sys2Proof.Machine.execDcpAbsx a s
  | .cpxImm nn => Sys2Proof.Machine.execCpxImm nn s
  | .sbcIndx nn => Sys2Proof.Machine.execSbcIndx nn s
  | .nopImmE2 nn => Sys2Proof.Machine.execNopImmE2 nn s
  | .isbIndx nn => Sys2Proof.Machine.execIsbIndx nn s
  | .cpxZp nn => Sys2Proof.Machine.execCpxZp nn s
  | .sbcZp nn => Sys2Proof.Machine.execSbcZp nn s
  | .incZp nn => Sys2Proof.Machine.execIncZp nn s
  | .isbZp nn => Sys2Proof.Machine.execIsbZp nn s
  | .sbcImm nn => Sys2Proof.Machine.execSbcImm nn s
  | .sbcImmEB nn => Sys2Proof.Machine.execSbcImmEB nn s
  | .cpxAbs a => Sys2Proof.Machine.execCpxAbs a s
  | .sbcAbs a => Sys2Proof.Machine.execSbcAbs a s
  | .incAbs a => Sys2Proof.Machine.execIncAbs a s
  | .isbAbs a => Sys2Proof.Machine.execIsbAbs a s
  | .beq nn => Sys2Proof.Machine.execBeq nn s
  | .sbcIndy nn => Sys2Proof.Machine.execSbcIndy nn s
  | .isbIndy nn => Sys2Proof.Machine.execIsbIndy nn s
  | .nopZpxF4 nn => Sys2Proof.Machine.execNopZpxF4 nn s
  | .sbcZpx nn => Sys2Proof.Machine.execSbcZpx nn s
  | .incZpx nn => Sys2Proof.Machine.execIncZpx nn s
  | .isbZpx nn => Sys2Proof.Machine.execIsbZpx nn s
  | .sbcAbsy a => Sys2Proof.Machine.execSbcAbsy a s
  | .isbAbsy a => Sys2Proof.Machine.execIsbAbsy a s
  | .nopAbsxFC a => Sys2Proof.Machine.execNopAbsxFC a s
  | .sbcAbsx a => Sys2Proof.Machine.execSbcAbsx a s
  | .incAbsx a => Sys2Proof.Machine.execIncAbsx a s
  | .isbAbsx a => Sys2Proof.Machine.execIsbAbsx a s
  | .brk => Sys2Proof.Machine.execBrk s
  | .unimplemented02 => Sys2Proof.Machine.execUnimplemented02 s
  | .php => Sys2Proof.Machine.execPhp s
  | .aslAcc => Sys2Proof.Machine.execAslAcc s
  | .unimplemented0B => Sys2Proof.Machine.execUnimplemented0B s
  | .unimplemented12 => Sys2Proof.Machine.execUnimplemented12 s
  | .clc => Sys2Proof.Machine.execClc s
  | .nop1A => Sys2Proof.Machine.execNop1A s
  | .unimplemented22 => Sys2Proof.Machine.execUnimplemented22 s
  | .plp => Sys2Proof.Machine.execPlp s
  | .rolAcc => Sys2Proof.Machine.execRolAcc s
  | .unimplemented2B => Sys2Proof.Machine.execUnimplemented2B s
  | .unimplemented32 => Sys2Proof.Machine.execUnimplemented32 s
  | .sec => Sys2Proof.Machine.execSec s
  | .nop3A => Sys2Proof.Machine.execNop3A s
  | .rti => Sys2Proof.Machine.execRti s
  | .unimplemented42 => Sys2Proof.Machine.execUnimplemented42 s
  | .pha => Sys2Proof.Machine.execPha s
  | .lsrAcc => Sys2Proof.Machine.execLsrAcc s
  | .unimplemented4B => Sys2Proof.Machine.execUnimplemented4B s
  | .unimplemented52 => Sys2Proof.Machine.execUnimplemented52 s
  | .cli => Sys2Proof.Machine.execCli s
  | .nop5A => Sys2Proof.Machine.execNop5A s
  | .rts => Sys2Proof.Machine.execRts s
  | .unimplemented62 => Sys2Proof.Machine.execUnimplemented62 s
  | .pla => Sys2Proof.Machine.execPla s
  | .rorAcc => Sys2Proof.Machine.execRorAcc s
  | .unimplemented6B => Sys2Proof.Machine.execUnimplemented6B s
  | .unimplemented72 => Sys2Proof.Machine.execUnimplemented72 s
  | .sei => Sys2Proof.Machine.execSei s
  | .nop7A => Sys2Proof.Machine.execNop7A s
  | .dey => Sys2Proof.Machine.execDey s
  | .txa => Sys2Proof.Machine.execTxa s
  | .unimplemented8B => Sys2Proof.Machine.execUnimplemented8B s
  | .unimplemented92 => Sys2Proof.Machine.execUnimplemented92 s
  | .unimplemented93 => Sys2Proof.Machine.execUnimplemented93 s
  | .tya => Sys2Proof.Machine.execTya s
  | .txs => Sys2Proof.Machine.execTxs s
  | .unimplemented9B => Sys2Proof.Machine.execUnimplemented9B s
  | .unimplemented9C => Sys2Proof.Machine.execUnimplemented9C s
  | .unimplemented9E => Sys2Proof.Machine.execUnimplemented9E s
  | .unimplemented9F => Sys2Proof.Machine.execUnimplemented9F s
  | .tay => Sys2Proof.Machine.execTay s
  | .tax => Sys2Proof.Machine.execTax s
  | .unimplementedAB => Sys2Proof.Machine.execUnimplementedAB s
  | .unimplementedB2 => Sys2Proof.Machine.execUnimplementedB2 s
  | .clv => Sys2Proof.Machine.execClv s
  | .tsx => Sys2Proof.Machine.execTsx s
  | .unimplementedBB => Sys2Proof.Machine.execUnimplementedBB s
  | .iny => Sys2Proof.Machine.execIny s
  | .dex => Sys2Proof.Machine.execDex s
  | .unimplementedCB => Sys2Proof.Machine.execUnimplementedCB s
  | .unimplementedD2 => Sys2Proof.Machine.execUnimplementedD2 s
  | .cld => Sys2Proof.Machine.execCld s
  | .nopDA => Sys2Proof.Machine.execNopDA s
  | .inx => Sys2Proof.Machine.execInx s
  | .nop => Sys2Proof.Machine.execNop s
  | .unimplementedF2 => Sys2Proof.Machine.execUnimplementedF2 s
  | .sed => Sys2Proof.Machine.execSed s
  | .nopFA => Sys2Proof.Machine.execNopFA s

end Sys2Proof.Machine
end

