-- ==== Sys2Proof/Machine/Fetch.lean ====
section
/-! DEFINITION. The instruction fetch (R110 to R113), and the placing of a word where the next fetch finds it. -/

namespace Sys2Proof.Machine

/-- Fetch one operand byte, the k-th after the opcode at pc0 (R113): an ordinary bus read at PC, which stands k past pc0. -/
def fetchOperand (pc0 : Word) (k : Nat) (s : State) : Bus Byte :=
  memRead (pc0 + BitVec.ofNat 16 k) (s.setPC (pc0 + BitVec.ofNat 16 k))

/-- Fetch and decode (R111 to R113): the opcode at PC, then as many operand bytes as the opcode asks for, in increasing address
order modulo 2^16, each an ordinary bus read. A completed fetch leaves PC at the opcode, and `State.pastOperand` moves it past
the instruction; a fault in an operand byte finds it past the bytes fetched before (R110). -/
def fetch (s : State) : Bus Instr :=
  andThen (memRead s.pc s) fun op s1 =>
  match lookup op with
  | .op0 i => .ok (i, s1)
  | .op1 f => andThen (fetchOperand s.pc 1 s1) fun b1 s2 => .ok (f b1, s2.setPC s.pc)
  | .op2 f =>
    andThen (fetchOperand s.pc 1 s1) fun b1 s2 =>
    andThen (fetchOperand s.pc 2 s2) fun b2 s3 => .ok (f (cat b2 b1), s3.setPC s.pc)

/-- Whether a byte can be placed at an address from outside: the address has a cell behind it. -/
def placeable (s : State) (a : Word) : Bool :=
  match s.target a with
  | .ram _ => true
  | .apu _ => true
  | .prg _ => true
  | .ppu _ => false
  | .unmapped => false

/-- Put a byte into the cell behind an address from outside the machine: a load of RAM, of the APU array or of the cartridge
image, which grows to hold the offset if it is too small or absent (log entry 10). -/
def place (s : State) (a : Word) (v : Byte) : State :=
  match s.target a with
  | .ram k => s.setRam k v
  | .apu k => s.setApu k v
  | .prg off =>
    let c := s.cart.getD { size := 0, bytes := [] }
    { s with cart := some { size := max c.size (off + 1), bytes := c.bytes.set off v } }
  | .ppu _ => s
  | .unmapped => s

/-- Put bytes at consecutive addresses (modulo 2^16). -/
def placeBytes (s : State) (a : Word) : List Byte → State
  | [] => s
  | v :: rest => placeBytes (place s a v) (a + 1) rest

/-- The three bytes from PC on stand in three different cells, so a word can be placed there. -/
def fetchPlaceable (s : State) : Bool :=
  placeable s s.pc && placeable s (s.pc + 1) && placeable s (s.pc + 2) &&
  s.target s.pc != s.target (s.pc + 1) && s.target (s.pc + 1) != s.target (s.pc + 2) &&
  s.target s.pc != s.target (s.pc + 2)

/-- The state whose fetch is redirected only where it has to be: a fault mark is cleared, and a PC with no three cells behind
it is set to 0xC000 (R281). -/
def fetchReady (s : State) : State :=
  let t := { s with faultMark := none }
  if fetchPlaceable t then t else t.setPC 0xC000

end Sys2Proof.Machine
end

