-- ==== Sys2Proof/Machine/Step.lean ====
section
/-! DEFINITION. One step (R110): a set fault mark answers the same fault (R262 e); else fetch, then exec. -/

namespace Sys2Proof.Machine

/-- Step() (R110). Step never takes an interrupt (R122, R263). -/
def step (s : State) : Host.Outcome State Fault Refusal :=
  match s.faultMark with
  | some k => .fault { kind := k, left := s }
  | none =>
    match fetch s with
    | .ok (i, s1) => exec i s1
    | .error f => .fault f

/-- s with the instruction of a table word placed where step fetches next (log entry 10). -/
def State.withFetchWord (s : State) (nbits w : Nat) : State :=
  let t := fetchReady s
  placeBytes t t.pc (tableBytes nbits w)

end Sys2Proof.Machine
end

