-- ==== Sys2Proof/Machine/Driver.lean ====
section
/-! DEFINITION. What a step shows its driver (R121), the driver's PPU tick (R288) and the recording of the fault mark (R37,
R262). The driver itself is outside the block (R5 e, R289). -/

namespace Sys2Proof.Machine

/-- The snapshot of R121. -/
structure Snapshot where
  pc : Word
  a : Byte
  x : Byte
  y : Byte
  p : Byte
  sp : Byte
  cycles : BitVec 64
  deriving DecidableEq, Repr

/-- The snapshot of a state, with P the live byte Pack(0) (R27, R121). -/
def State.snapshot (s : State) : Snapshot where
  pc := s.pc
  a := s.a
  x := s.x
  y := s.y
  p := s.flags.pack false
  sp := s.sp
  cycles := s.cycles

/-- The cycle cost of a step from `s` to `t` (R121): what it added to the counter. -/
def stepCost (s t : State) : BitVec 64 := t.cycles - s.cycles

/-- How many of its own cycles the PPU advances after a step of cost n (R288; 90 C2). -/
def ppuCycles (n : Nat) : Nat := 3 * n

/-- Record the first fault (R262 a, c); once set, the mark stays (R37). -/
def State.mark (s : State) (k : FaultKind) : State :=
  match s.faultMark with
  | some _ => s
  | none => { s with faultMark := some k }

/-- One call of Step by the driver (R289): the next state, or the state the fault left (R262 b) with the fault mark set. -/
def advance (s : State) : State :=
  match step s with
  | .next t => t
  | .fault f => f.left.mark f.kind
  | .refused _ => s

end Sys2Proof.Machine
end

