-- ==== Sys2Proof/Safety.lean ====
section
/-! DEFINITION. The terms claims are stated in: the invariant of every run, which accesses complete, what an instruction's operand
supplies, and what it means that memory is unchanged. -/

namespace Sys2Proof.Machine

/-- Every store is in canonical form and holds only cells it has (R33, R34, R36, R48). -/
structure State.Inv (s : State) : Prop where
  ram_wf : s.ram.wf
  ram_below : s.ram.below Config.ramSize
  apu_wf : s.apu.wf
  apu_below : s.apu.below Config.apuSize
  cart_wf : ∀ c, s.cart = some c → c.bytes.wf ∧ c.bytes.below c.size

/-- The access, or the sequence of accesses, faults with this kind (R261). The state it leaves stays out: the spec makes no claim of
it (R262 b; 92 D21). -/
def Fails {α : Type} (r : Bus α) (k : FaultKind) : Prop := ∃ left, r = .error { kind := k, left := left }

/-- The step or the instruction faults with this kind (R261, R262 a), whatever state it leaves. -/
def Stops (r : Result) (k : FaultKind) : Prop := ∃ left, r = .fault { kind := k, left := left }

/-- Reading the bytes at consecutive addresses from a on, modulo 2^16, gives these bytes and leads from s to t: the reads of an
instruction fetch (R111, R113), each of which may be a PPU access (R44). -/
def FetchesBytes (a : Word) : List Byte → State → State → Prop
  | [], s, t => t = s
  | b :: rest, s, t => ∃ s1, memRead a s = .ok (b, s1) ∧ FetchesBytes (a + 1) rest s1 t

/-- The state with another record of PPU accesses: what a bus read can change (R56). -/
def State.withLog (s : State) (l : List PpuEvent) : State := { s with ppuLog := l }

/-- A read of the address raises no fault (R42, R48, R49). -/
def readable (s : State) (a : Word) : Bool :=
  match s.target a with
  | .ram _ => true
  | .ppu _ => true
  | .apu _ => true
  | .unmapped => false
  | .prg off => (readPRG s.cart off).isSome

/-- A write of the address raises no fault (R42, R49, R50). -/
def writable (s : State) (a : Word) : Bool :=
  match s.target a with
  | .ram _ => true
  | .ppu _ => true
  | .apu _ => true
  | .unmapped => false
  | .prg _ => s.params.romWritePolicy == .ignore

/-- The effective address of i at s is ea, with its page-cross bit; s1 is the state after the operand fetch and the pointer
reads (R113, R114). -/
def Addresses (i : Instr) (s : State) (ea : Word) (crossed : Bool) (s1 : State) : Prop :=
  resolve i.row.operand (s.pastOperand i) = .ok ({ target := .address ea, crossed := crossed }, s1)

/-- The operand value M of i at s is m (R115 c, d): the immediate byte, or the byte read from EA; s1 is the state after it. -/
def Supplies (i : Instr) (s : State) (m : Byte) (crossed : Bool) (s1 : State) : Prop :=
  resolve i.row.operand (s.pastOperand i) = .ok ({ target := .value m, crossed := crossed }, s1) ∨
  ∃ ea s0, Addresses i s ea crossed s0 ∧ memRead ea s0 = .ok (m, s1)

/-- The read of the operand of i at s faults with kind k: in a pointer read (R105) or in the read of EA. -/
def ReadFaults (i : Instr) (s : State) (k : FaultKind) : Prop :=
  Fails (resolve i.row.operand (s.pastOperand i)) k ∨
  ∃ ea crossed s1, Addresses i s ea crossed s1 ∧ Fails (memRead ea s1) k

/-- A row as an instruction rule lists it under Encoding and Cycles. -/
structure Form where
  instr : Instr
  opcode : Byte
  length : Nat
  cycles : Nat

/-- The common part of a step: PC past the instruction (R113), base cost and extra credited (R117), and the record of PPU
accesses as given; everything else as in s. -/
def State.after (s : State) (f : Form) (extra : Nat) (log : List PpuEvent) : State :=
  { s with
      pc := s.pc + BitVec.ofNat 16 f.length
      cycles := s.cycles + BitVec.ofNat 64 (f.cycles + extra)
      ppuLog := log }

/-- Every address reads as before. -/
def SameMemory (s t : State) : Prop := ∀ b, t.peek b = s.peek b

/-- Every address reads as before, but for those that reach the cell behind one of the given addresses. -/
def SameMemoryBut (stored : List Word) (s t : State) : Prop :=
  ∀ b, (∀ ea ∈ stored, s.target b ≠ s.target ea) → t.peek b = s.peek b

end Sys2Proof.Machine
end

