-- ==== Sys2Proof/Certificates/Slice0/Obligations.lean ====
section
/-! DEFINITION. The statements for the provers. Each docstring names the rules of spec/ it formalises. -/

open Sys2Proof
open Sys2Proof.Machine

/-! ## Encoding -/

/-- One word of each family, written out from its rule's Encoding line, decodes to the instruction it stands for
(R71, R74; 42 to 48). -/
def Obligations.SpecWordsDecode : Prop :=
  decode [0xA9, 0x10] = .ok (.ldaImm 0x10, []) ∧
  decode [0xBE, 0x34, 0x12] = .ok (.ldxAbsy 0x1234, []) ∧
  decode [0x91, 0x20] = .ok (.staIndy 0x20, []) ∧
  decode [0x9A] = .ok (.txs, []) ∧
  decode [0x08] = .ok (.php, []) ∧
  decode [0x7D, 0xFF, 0x10] = .ok (.adcAbsx 0x10FF, []) ∧
  decode [0x6A] = .ok (.rorAcc, []) ∧
  decode [0x6C, 0xFF, 0x02] = .ok (.jmpInd 0x02FF, []) ∧
  decode [0xD0, 0xF8] = .ok (.bne 0xF8, []) ∧
  decode [0xB8] = .ok (.clv, []) ∧
  decode [0xC3, 0x24] = .ok (.dcpIndx 0x24, []) ∧
  decode [0xEB, 0x01] = .ok (.sbcImmEB 0x01, []) ∧
  decode [0x8B] = .ok (.unimplemented8B, [])

/-- Decoding the bytes of any instruction, with anything after them, gives that instruction back with every operand value
(R70 to R73). -/
def Obligations.DecodeOfEncode : Prop :=
  ∀ (i : Instr) (rest : List Byte), decode (encode i ++ rest) = .ok (i, rest)

/-- Whatever decodes is made of the bytes of the instruction it decodes to: no byte is dropped and no two byte sequences mean
one instruction (R70 to R73). -/
def Obligations.EncodeOfDecode : Prop :=
  ∀ (bytes rest : List Byte) (i : Instr), decode bytes = .ok (i, rest) → bytes = encode i ++ rest

/-- The 25 bytes of R242, and no others, decode to an unimplemented row; each such row's only outcome is
UnknownOpcode with the opcode's address and the byte, whatever store the byte is fetched from, a PPU register included; the
opcode fetch is the step's only access, and no register, flag, memory cell or counter changes (R242, R111, R118). -/
def Obligations.UnimplementedBytesFault : Prop :=
  (∀ op : Byte, ∃ i, decode [op, 0, 0] = .ok (i, ([0, 0] : List Byte).drop (i.length - 1)) ∧ i.row.opcode = op ∧
    (i.row.implemented = false ↔ op ∈ ([0x02, 0x12, 0x22, 0x32, 0x42, 0x52, 0x62, 0x72, 0x92, 0xB2, 0xD2, 0xF2,
      0x0B, 0x2B, 0x4B, 0x6B, 0x8B, 0x93, 0x9F, 0x9B, 0x9C, 0x9E, 0xAB, 0xBB, 0xCB] : List Byte))) ∧
  (∀ (s : State), ∀ i ∈ [Instr.unimplemented02, .unimplemented12, .unimplemented22, .unimplemented32, .unimplemented42,
      .unimplemented52, .unimplemented62, .unimplemented72, .unimplemented92, .unimplementedB2, .unimplementedD2,
      .unimplementedF2, .unimplemented0B, .unimplemented2B, .unimplemented4B, .unimplemented6B, .unimplemented8B,
      .unimplemented93, .unimplemented9F, .unimplemented9B, .unimplemented9C, .unimplemented9E, .unimplementedAB,
      .unimplementedBB, .unimplementedCB],
    i.row.implemented = false ∧ exec i s = .fault { kind := .unknownOpcode s.pc i.row.opcode, left := s }) ∧
  (∀ (s t : State) (i : Instr), i.row.implemented = false → s.faultMark = none →
    memRead s.pc s = .ok (i.row.opcode, t) →
    step s = .fault { kind := .unknownOpcode s.pc i.row.opcode, left := t })

/-! ## The step -/

/-- When the bytes the bus reads at PC decode to an instruction, the step is exec of it at the state those reads leave; exec
itself moves PC past the instruction (R110 to R113). Each fetch is an ordinary read, so one from a PPU register is an event and
its byte the free value of log entry 3 (R44, R63, R111); where the bytes are those of RAM, the APU array or PRG-ROM the reads
leave the state as it was (R56). -/
def Obligations.StepRunsDecodedInstruction : Prop :=
  (∀ (s t : State) (i : Instr) (bytes : List Byte), s.faultMark = none → decode bytes = .ok (i, []) →
    FetchesBytes s.pc bytes s t → step s = exec i t) ∧
  (∀ (s : State) (i : Instr) (bytes : List Byte), s.faultMark = none → decode bytes = .ok (i, []) →
    (∀ k (h : k < bytes.length), s.peek (s.pc + BitVec.ofNat 16 k) = some bytes[k]) → step s = exec i s)

/-- The fetch of an opcode or operand byte from 0x4018 to 0x7FFF ends the step in UnmappedAddress, and from PRG-ROM with no byte
behind it in ConfigError (R48, R49, R111, R113, R261). The first two clauses are the opcode's. The last two are those of any byte
of instruction i: `pre` is what was fetched before it, nothing or the opcode and the operand bytes so far, and t is the state
those reads leave. -/
def Obligations.OpcodeFetchFaults : Prop :=
  (∀ s : State, s.faultMark = none →
    (0x4018 ≤ s.pc.toNat ∧ s.pc.toNat ≤ 0x7FFF → Stops (step s) (.unmappedAddress s.pc .read)) ∧
    (∀ off, s.target s.pc = .prg off → readPRG s.cart off = none → Stops (step s) (.configError off))) ∧
  (∀ (s t : State) (i : Instr) (pre : List Byte) (a : Word), s.faultMark = none →
    (pre = [] ∨ pre.head? = some i.row.opcode) → pre.length < i.length → FetchesBytes s.pc pre s t →
    a = s.pc + BitVec.ofNat 16 pre.length →
    (0x4018 ≤ a.toNat ∧ a.toNat ≤ 0x7FFF → Stops (step s) (.unmappedAddress a .read)) ∧
    (∀ off, s.target a = .prg off → readPRG s.cart off = none → Stops (step s) (.configError off)))

/-- The fault mark is set by no completed step, holds the kind and information of the first fault, and is final: once set, every
step answers that fault and nothing changes (R37, R262 c and e). -/
def Obligations.FaultMarkIsFinal : Prop :=
  (∀ (s : State) (k : FaultKind), s.faultMark = some k → step s = .fault { kind := k, left := s } ∧ advance s = s) ∧
  (∀ (s : State) (f : Fault), s.faultMark = none → step s = .fault f → (advance s).faultMark = some f.kind) ∧
  (∀ s t : State, step s = .next t → s.faultMark = none ∧ t.faultMark = none ∧ advance s = t)

/-- The invariant holds after reset, for State.reset and for every reset from canonical contents (R33, R34, R36, R38). -/
def Obligations.ResetMeetsInvariant : Prop :=
  State.reset.Inv ∧
  ∀ (p : Params) (cart : Cartridge) (initRam initApu : Memory) (s : State),
    initRam.wf → initRam.below Config.ramSize → initApu.wf → initApu.below Config.apuSize →
    cart.bytes.wf → cart.bytes.below cart.size → powerOn p cart initRam initApu = .ok s → s.Inv

/-- Every step keeps the invariant: each store stays canonical and within its size (R33, R34, R36, R42). -/
def Obligations.StepKeepsInvariant : Prop :=
  ∀ s t : State, s.Inv → step s = .next t → t.Inv

/-- No step changes PRG-ROM or a parameter of the run (R36, R50). -/
def Obligations.StepKeepsRomAndParameters : Prop :=
  ∀ s t : State, step s = .next t → t.cart = s.cart ∧ t.params = s.params

/-- The record of PPU accesses only grows, at its end (R44, R61); the record is the model's form of R44 (log entry 3). -/
def Obligations.PpuRecordOnlyGrows : Prop :=
  ∀ s t : State, step s = .next t → ∃ new, t.ppuLog = s.ppuLog ++ new

/-- No instruction, in any state, raises UnsupportedMode, and no unmarked step does: the table pairs every mnemonic with modes
its rule defines (R120). -/
def Obligations.UnsupportedModeUnreachable : Prop :=
  (∀ (i : Instr) (s : State) (pc : Word) (op : Byte), ¬Stops (exec i s) (.unsupportedMode pc op)) ∧
  (∀ (s : State) (pc : Word) (op : Byte), s.faultMark = none → ¬Stops (step s) (.unsupportedMode pc op))

/-- Every completed step costs 2 to 8 cycles (R117). -/
def Obligations.StepCostsTwoToEight : Prop :=
  ∀ s t : State, step s = .next t → 2 ≤ (stepCost s t).toNat ∧ (stepCost s t).toNat ≤ 8

/-! ## Reset -/

/-- What Reset() leaves, for every cartridge, parameter and initial content (R38, R280 to R282): the registers and flags, live
P = 0x24, the counter, the contents given, no fault mark, no PPU access; PC by RESET_PC_MODE, with the vector read from PRG offsets
0x3FFC and 0x3FFD above PRG_UPPER_BASE (R47) and failing as that read fails. That the record of PPU accesses is empty is the
model's choice (log entry 3). -/
def Obligations.ResetLeavesSpecState : Prop :=
  (∀ (p : Params) (cart : Cartridge) (initRam initApu : Memory) (s : State), powerOn p cart initRam initApu = .ok s →
    s.a = 0x00 ∧ s.x = 0x00 ∧ s.y = 0x00 ∧ s.sp = 0xFD ∧
    s.flags = { c := false, z := false, i := true, d := false, v := false, n := false } ∧ s.flags.pack false = 0x24 ∧
    s.cycles = p.cyclesAtReset ∧ s.ram = initRam ∧ s.apu = initApu ∧ s.faultMark = none ∧ s.cart = some cart ∧
    s.ppuLog = []) ∧
  (∀ (p : Params) (cart : Cartridge) (initRam initApu : Memory) (a : Word), p.resetPcMode = .fixed a →
    ∃ s, powerOn p cart initRam initApu = .ok s ∧ s.pc = a) ∧
  (∀ (p : Params) (cart : Cartridge) (initRam initApu : Memory) (l h : Byte), p.resetPcMode = .vector →
    readPRG (some cart) (0x3FFC + p.prgUpperBase) = some l → readPRG (some cart) (0x3FFD + p.prgUpperBase) = some h →
    ∃ s, powerOn p cart initRam initApu = .ok s ∧ s.pc = cat h l) ∧
  (∀ (p : Params) (cart : Cartridge) (initRam initApu : Memory), p.resetPcMode = .vector →
    readPRG (some cart) (0x3FFC + p.prgUpperBase) = none →
    powerOn p cart initRam initApu = .error (.configError (0x3FFC + p.prgUpperBase))) ∧
  (∀ (p : Params) (cart : Cartridge) (initRam initApu : Memory) (l : Byte), p.resetPcMode = .vector →
    readPRG (some cart) (0x3FFC + p.prgUpperBase) = some l → readPRG (some cart) (0x3FFD + p.prgUpperBase) = none →
    powerOn p cart initRam initApu = .error (.configError (0x3FFD + p.prgUpperBase))) ∧
  Params.default.resetPcMode = .fixed 0xC000 ∧ Params.default.cyclesAtReset = 7

/-! ## Memory -/

/-- The bus answers by the address table, for reads and writes alike (R42, R44, R48 to R50); a fault is given by its kind. The
record a PPU access is appended to, and the answer of a PPU read, are the model's form of R44 (log entry 3). -/
def Obligations.BusFollowsAddressTable : Prop :=
  ∀ (a : Word) (s : State) (v : Byte),
    (Except.mapError Fault.kind (memRead a s) =
      if a.toNat ≤ 0x1FFF then .ok (s.ram.get (a.toNat % 0x800), s)
      else if a.toNat ≤ 0x3FFF then .ok (ppuRead (BitVec.ofNat 3 a.toNat) s)
      else if a.toNat ≤ 0x4017 then .ok (s.apu.get (a.toNat - 0x4000), s)
      else if a.toNat ≤ 0x7FFF then .error (.unmappedAddress a .read)
      else
        let off := if a.toNat ≤ 0xBFFF then a.toNat % 0x8000 else a.toNat - 0xC000 + s.params.prgUpperBase
        match s.cart with
        | none => .error (.configError off)
        | some c => if off < c.size then .ok (c.bytes.get off, s) else .error (.configError off)) ∧
    (Except.mapError Fault.kind (memWrite a v s) =
      if a.toNat ≤ 0x1FFF then .ok ((), { s with ram := s.ram.set (a.toNat % 0x800) v })
      else if a.toNat ≤ 0x3FFF then
        .ok ((), { s with ppuLog := s.ppuLog ++ [.write s.cycles (BitVec.ofNat 3 a.toNat) v] })
      else if a.toNat ≤ 0x4017 then .ok ((), { s with apu := s.apu.set (a.toNat - 0x4000) v })
      else if a.toNat ≤ 0x7FFF then .error (.unmappedAddress a .write)
      else match s.params.romWritePolicy with
        | .fault => .error (.romWrite a v)
        | .ignore => .ok ((), s))

/-- A byte written at any of the four RAM mirrors is read at every one, and at no other address (R43). -/
def Obligations.RamMirrorsShareCells : Prop :=
  ∀ (a : Word) (v : Byte) (s : State), a.toNat ≤ 0x1FFF →
    ∃ t, memWrite a v s = .ok ((), t) ∧
      (∀ b : Word, b.toNat ≤ 0x1FFF → b.toNat % 0x800 = a.toNat % 0x800 → memRead b t = .ok (v, t)) ∧
      (∀ b : Word, ¬(b.toNat ≤ 0x1FFF ∧ b.toNat % 0x800 = a.toNat % 0x800) → t.peek b = s.peek b)

/-- An APU/IO cell reads back what was stored, and nothing else happens (R45). -/
def Obligations.ApuCellsReadBack : Prop :=
  ∀ (a : Word) (v : Byte) (s : State), 0x4000 ≤ a.toNat → a.toNat ≤ 0x4017 →
    ∃ t, memWrite a v s = .ok ((), t) ∧ memRead a t = .ok (v, t) ∧ t = { s with apu := t.apu } ∧
      ∀ b : Word, b ≠ a → t.peek b = s.peek b

/-- An access to a PPU register is one event at the end of the record, and a read returns the oracle's answer to the record so
far; nothing else of the state changes (R44, R56). The answer is the free value of log entry 3. -/
def Obligations.PpuAccessesAreEvents : Prop :=
  ∀ (a : Word) (v : Byte) (s : State), 0x2000 ≤ a.toNat → a.toNat ≤ 0x3FFF →
    (∃ w, w = Config.ppuOracle s.ppuLog s.cycles (BitVec.ofNat 3 a.toNat) ∧
      memRead a s = .ok (w, { s with ppuLog := s.ppuLog ++ [.read s.cycles (BitVec.ofNat 3 a.toNat) w] })) ∧
    memWrite a v s = .ok ((), { s with ppuLog := s.ppuLog ++ [.write s.cycles (BitVec.ofNat 3 a.toNat) v] })

/-- The two PRG banks: with PRG_UPPER_BASE = 0 both read the same byte; with 0x4000 the upper bank reads the next 16 KB; with
any base the lower bank reads offset k (R46, R47). -/
def Obligations.PrgBanks : Prop :=
  ∀ (s : State) (k : Nat), k < 0x4000 →
    s.peek (BitVec.ofNat 16 (0x8000 + k)) = readPRG s.cart k ∧
    s.peek (BitVec.ofNat 16 (0xC000 + k)) = readPRG s.cart (k + s.params.prgUpperBase) ∧
    (s.params.prgUpperBase = 0 → s.peek (BitVec.ofNat 16 (0xC000 + k)) = s.peek (BitVec.ofNat 16 (0x8000 + k)))

/-- Read16ZP never faults and wraps in page zero; Read16Bug is Read16 unless the low byte is 0xFF, and then takes the high byte
from the start of the same page (R52, R53). -/
def Obligations.PointerReadsWrap : Prop :=
  (∀ (p : Byte) (s : State),
    read16ZP p s = .ok (cat (s.ram.get ((p.toNat + 1) % 0x100)) (s.ram.get p.toNat), s)) ∧
  (∀ (p : Word) (s : State), loByte p ≠ 0xFF → read16Bug p s = read16 p s) ∧
  (∀ (p : Word) (s : State), loByte p = 0xFF → read16Bug p s = readPair p (p &&& 0xFF00) s)

/-- Push writes at 0x0100 + SP and then decrements SP; Pull increments SP and then reads there; both complete in every state,
wrap inside page 1 and touch nothing else; a 16-bit push is high byte first, a 16-bit pull low byte first (R59, R60). -/
def Obligations.StackPrimitives : Prop :=
  (∀ (v : Byte) (s : State), ∃ t, push v s = .ok ((), t) ∧ t = { s with sp := s.sp - 1, ram := t.ram } ∧
    t.peek (BitVec.ofNat 16 (0x100 + s.sp.toNat)) = some v ∧
    SameMemoryBut [BitVec.ofNat 16 (0x100 + s.sp.toNat)] s t) ∧
  (∀ s : State, ∃ v, s.peek (BitVec.ofNat 16 (0x100 + (s.sp + 1).toNat)) = some v ∧
    pull s = .ok (v, { s with sp := s.sp + 1 })) ∧
  (∀ (w : Word) (s : State), push16 w s = andThen (push (hiByte w) s) fun _ t => push (loByte w) t) ∧
  (∀ s : State, pull16 s = andThen (pull s) fun l t => andThen (pull t) fun h u => .ok (cat h l, u)) ∧
  (∀ (v : Byte) (s t : State), push v s = .ok ((), t) → pull t = .ok (v, { t with sp := s.sp })) ∧
  (∀ (w : Word) (s t : State), push16 w s = .ok ((), t) → pull16 t = .ok (w, { t with sp := s.sp }))

/-! ## Addressing modes -/

/-- The modes that read no pointer, with their wrap and page-cross bit (R91 to R100). -/
def Obligations.DirectModesResolve : Prop :=
  ∀ (s : State) (nn : Byte) (a : Word),
    resolve .imp s = .ok (⟨.noTarget, false⟩, s) ∧
    resolve .acc s = .ok (⟨.accumulator, false⟩, s) ∧
    resolve (.imm nn) s = .ok (⟨.value nn, false⟩, s) ∧
    resolve (.zp nn) s = .ok (⟨.address (BitVec.ofNat 16 nn.toNat), false⟩, s) ∧
    resolve (.zpx nn) s = .ok (⟨.address (BitVec.ofNat 16 ((nn.toNat + s.x.toNat) % 0x100)), false⟩, s) ∧
    resolve (.zpy nn) s = .ok (⟨.address (BitVec.ofNat 16 ((nn.toNat + s.y.toNat) % 0x100)), false⟩, s) ∧
    resolve (.rel nn) s = .ok (⟨.address (BitVec.ofInt 16 (s.pc.toNat + nn.toInt)), false⟩, s) ∧
    resolve (.abs a) s = .ok (⟨.address a, false⟩, s) ∧
    resolve (.absx a) s = .ok (⟨.address (BitVec.ofNat 16 (a.toNat + s.x.toNat)),
      decide ((a.toNat + s.x.toNat) % 0x10000 / 0x100 ≠ a.toNat / 0x100)⟩, s) ∧
    resolve (.absy a) s = .ok (⟨.address (BitVec.ofNat 16 (a.toNat + s.y.toNat)),
      decide ((a.toNat + s.y.toNat) % 0x10000 / 0x100 ≠ a.toNat / 0x100)⟩, s)

/-- The modes that read a pointer: (nn,X) and (nn),Y take it from page zero with wrap and never fault; ind reads it with the
page bug (R101 to R103, R105). -/
def Obligations.PointerModesResolve : Prop :=
  (∀ (s : State) (nn : Byte),
    resolve (.indx nn) s = .ok (⟨.address (cat (s.ram.get ((nn.toNat + s.x.toNat + 1) % 0x100))
      (s.ram.get ((nn.toNat + s.x.toNat) % 0x100))), false⟩, s)) ∧
  (∀ (s : State) (nn : Byte) (base : Word),
    base = cat (s.ram.get ((nn.toNat + 1) % 0x100)) (s.ram.get nn.toNat) →
    resolve (.indy nn) s = .ok (⟨.address (BitVec.ofNat 16 (base.toNat + s.y.toNat)),
      decide ((base.toNat + s.y.toNat) % 0x10000 / 0x100 ≠ base.toNat / 0x100)⟩, s)) ∧
  (∀ (s : State) (a : Word) (l h : Byte), s.peek a = some l →
    s.peek (BitVec.ofNat 16 (a.toNat / 0x100 * 0x100 + (a.toNat + 1) % 0x100)) = some h →
    resolve (.ind a) s = .ok (⟨.address (cat h l), false⟩, s)) ∧
  (∀ (s : State) (a : Word), 0x4018 ≤ a.toNat → a.toNat ≤ 0x7FFF →
    Fails (resolve (.ind a) s) (.unmappedAddress a .read))

/-! ## Loads, stores, transfers

A form lists a row as its rule does: opcode, length, base cycles. `s.after f n log` is s with PC past the instruction, base cost
and n credited, and the given record of PPU accesses; every other field is that of s. -/

/-- LDA (R131). -/
def Obligations.LdaLoadsA : Prop :=
  ∀ (nn : Byte) (a : Word) (s : State), ∀ f ∈ ([⟨.ldaImm nn, 0xA9, 2, 2⟩, ⟨.ldaZp nn, 0xA5, 2, 3⟩, ⟨.ldaZpx nn, 0xB5, 2, 4⟩,
      ⟨.ldaAbs a, 0xAD, 3, 4⟩, ⟨.ldaAbsx a, 0xBD, 3, 4⟩, ⟨.ldaAbsy a, 0xB9, 3, 4⟩, ⟨.ldaIndx nn, 0xA1, 2, 6⟩,
      ⟨.ldaIndy nn, 0xB1, 2, 5⟩] : List Form),
    f.instr.row.opcode = f.opcode ∧
    (∀ m crossed s1, Supplies f.instr s m crossed s1 → exec f.instr s = .next { s.after f crossed.toNat s1.ppuLog with
      a := m, flags := { s.flags with z := m == 0, n := m.msb } }) ∧
    (∀ k, ReadFaults f.instr s k → Stops (exec f.instr s) k)

/-- LDX and LDY (R132, R133). -/
def Obligations.LdxLdyLoadIndexRegisters : Prop :=
  ∀ (nn : Byte) (a : Word) (s : State),
    (∀ f ∈ ([⟨.ldxImm nn, 0xA2, 2, 2⟩, ⟨.ldxZp nn, 0xA6, 2, 3⟩, ⟨.ldxZpy nn, 0xB6, 2, 4⟩, ⟨.ldxAbs a, 0xAE, 3, 4⟩,
        ⟨.ldxAbsy a, 0xBE, 3, 4⟩] : List Form),
      f.instr.row.opcode = f.opcode ∧
      (∀ m crossed s1, Supplies f.instr s m crossed s1 → exec f.instr s = .next { s.after f crossed.toNat s1.ppuLog with
        x := m, flags := { s.flags with z := m == 0, n := m.msb } }) ∧
      (∀ k, ReadFaults f.instr s k → Stops (exec f.instr s) k)) ∧
    (∀ f ∈ ([⟨.ldyImm nn, 0xA0, 2, 2⟩, ⟨.ldyZp nn, 0xA4, 2, 3⟩, ⟨.ldyZpx nn, 0xB4, 2, 4⟩, ⟨.ldyAbs a, 0xAC, 3, 4⟩,
        ⟨.ldyAbsx a, 0xBC, 3, 4⟩] : List Form),
      f.instr.row.opcode = f.opcode ∧
      (∀ m crossed s1, Supplies f.instr s m crossed s1 → exec f.instr s = .next { s.after f crossed.toNat s1.ppuLog with
        y := m, flags := { s.flags with z := m == 0, n := m.msb } }) ∧
      (∀ k, ReadFaults f.instr s k → Stops (exec f.instr s) k))

/-- STA, STX, STY and SAX write A, X, Y and A AND X to EA, change no register or flag, and fault as the write does
(R134 to R136, R234). -/
def Obligations.StoresWriteEA : Prop :=
  ∀ (nn : Byte) (a : Word) (s : State), ∀ p ∈ ([
      (⟨.staZp nn, 0x85, 2, 3⟩, s.a), (⟨.staZpx nn, 0x95, 2, 4⟩, s.a), (⟨.staAbs a, 0x8D, 3, 4⟩, s.a),
      (⟨.staAbsx a, 0x9D, 3, 5⟩, s.a), (⟨.staAbsy a, 0x99, 3, 5⟩, s.a), (⟨.staIndx nn, 0x81, 2, 6⟩, s.a),
      (⟨.staIndy nn, 0x91, 2, 6⟩, s.a),
      (⟨.stxZp nn, 0x86, 2, 3⟩, s.x), (⟨.stxZpy nn, 0x96, 2, 4⟩, s.x), (⟨.stxAbs a, 0x8E, 3, 4⟩, s.x),
      (⟨.styZp nn, 0x84, 2, 3⟩, s.y), (⟨.styZpx nn, 0x94, 2, 4⟩, s.y), (⟨.styAbs a, 0x8C, 3, 4⟩, s.y),
      (⟨.saxZp nn, 0x87, 2, 3⟩, s.a &&& s.x), (⟨.saxZpy nn, 0x97, 2, 4⟩, s.a &&& s.x),
      (⟨.saxAbs a, 0x8F, 3, 4⟩, s.a &&& s.x), (⟨.saxIndx nn, 0x83, 2, 6⟩, s.a &&& s.x)] : List (Form × Byte)),
    p.1.instr.row.opcode = p.1.opcode ∧
    ∃ ea crossed s1, Addresses p.1.instr s ea crossed s1 ∧
      (writable s ea = true → ∃ t, memWrite ea p.2 s1 = .ok ((), t) ∧
        exec p.1.instr s = .next { s.after p.1 0 t.ppuLog with ram := t.ram, apu := t.apu }) ∧
      (∀ k, Fails (memWrite ea p.2 s1) k → Stops (exec p.1.instr s) k)

/-- The six transfers; TXS sets no flag (R137 to R142). -/
def Obligations.TransfersCopyRegisters : Prop :=
  ∀ s : State,
    (Instr.tax.row.opcode = 0xAA ∧ Instr.tay.row.opcode = 0xA8 ∧ Instr.txa.row.opcode = 0x8A ∧
      Instr.tya.row.opcode = 0x98 ∧ Instr.tsx.row.opcode = 0xBA ∧ Instr.txs.row.opcode = 0x9A) ∧
    exec .tax s = .next { s.after ⟨.tax, 0xAA, 1, 2⟩ 0 s.ppuLog with
      x := s.a, flags := { s.flags with z := s.a == 0, n := s.a.msb } } ∧
    exec .tay s = .next { s.after ⟨.tay, 0xA8, 1, 2⟩ 0 s.ppuLog with
      y := s.a, flags := { s.flags with z := s.a == 0, n := s.a.msb } } ∧
    exec .txa s = .next { s.after ⟨.txa, 0x8A, 1, 2⟩ 0 s.ppuLog with
      a := s.x, flags := { s.flags with z := s.x == 0, n := s.x.msb } } ∧
    exec .tya s = .next { s.after ⟨.tya, 0x98, 1, 2⟩ 0 s.ppuLog with
      a := s.y, flags := { s.flags with z := s.y == 0, n := s.y.msb } } ∧
    exec .tsx s = .next { s.after ⟨.tsx, 0xBA, 1, 2⟩ 0 s.ppuLog with
      x := s.sp, flags := { s.flags with z := s.sp == 0, n := s.sp.msb } } ∧
    exec .txs s = .next { s.after ⟨.txs, 0x9A, 1, 2⟩ 0 s.ppuLog with sp := s.x }

/-! ## Stack instructions -/

/-- PHA pushes A; PHP pushes the flags with bits 4 and 5 set; no flag changes (R150, R151). -/
def Obligations.PushesStoreOnStack : Prop :=
  ∀ s : State,
    (Instr.pha.row.opcode = 0x48 ∧ Instr.php.row.opcode = 0x08) ∧
    exec .pha s = .next { s.after ⟨.pha, 0x48, 1, 3⟩ 0 s.ppuLog with
      sp := s.sp - 1, ram := s.ram.set (0x100 + s.sp.toNat) s.a } ∧
    ∃ p : Byte, exec .php s = .next { s.after ⟨.php, 0x08, 1, 3⟩ 0 s.ppuLog with
        sp := s.sp - 1, ram := s.ram.set (0x100 + s.sp.toNat) p } ∧
      [p.getLsbD 0, p.getLsbD 1, p.getLsbD 2, p.getLsbD 3, p.getLsbD 4, p.getLsbD 5, p.getLsbD 6, p.getLsbD 7] =
        [s.flags.c, s.flags.z, s.flags.i, s.flags.d, true, true, s.flags.v, s.flags.n]

/-- PLA loads A from the stack and sets Z and N; PLP takes the six flags from the pulled byte and ignores bits 4 and 5
(R152, R153). -/
def Obligations.PullsLoadFromStack : Prop :=
  (Instr.pla.row.opcode = 0x68 ∧ Instr.plp.row.opcode = 0x28) ∧
  ∀ (s : State) (m : Byte), s.peek (BitVec.ofNat 16 (0x100 + (s.sp + 1).toNat)) = some m →
    exec .pla s = .next { s.after ⟨.pla, 0x68, 1, 4⟩ 0 s.ppuLog with
      sp := s.sp + 1, a := m, flags := { s.flags with z := m == 0, n := m.msb } } ∧
    exec .plp s = .next { s.after ⟨.plp, 0x28, 1, 4⟩ 0 s.ppuLog with
      sp := s.sp + 1
      flags := { c := m.getLsbD 0, z := m.getLsbD 1, i := m.getLsbD 2, d := m.getLsbD 3, v := m.getLsbD 6, n := m.getLsbD 7 } }

/-! ## Arithmetic and logic -/

/-- ADC (R160, R163): A is the sum modulo 256, C the ninth bit, V the signed overflow, Z and N from the sum. -/
def Obligations.AdcAddsWithCarry : Prop :=
  ∀ (nn : Byte) (a : Word) (s : State), ∀ f ∈ ([⟨.adcImm nn, 0x69, 2, 2⟩, ⟨.adcZp nn, 0x65, 2, 3⟩, ⟨.adcZpx nn, 0x75, 2, 4⟩,
      ⟨.adcAbs a, 0x6D, 3, 4⟩, ⟨.adcAbsx a, 0x7D, 3, 4⟩, ⟨.adcAbsy a, 0x79, 3, 4⟩, ⟨.adcIndx nn, 0x61, 2, 6⟩,
      ⟨.adcIndy nn, 0x71, 2, 5⟩] : List Form),
    f.instr.row.opcode = f.opcode ∧
    (∀ m crossed s1 t r, Supplies f.instr s m crossed s1 → t = s.a.toNat + m.toNat + s.flags.c.toNat →
      r = BitVec.ofNat 8 t → exec f.instr s = .next { s.after f crossed.toNat s1.ppuLog with
        a := r
        flags := { s.flags with
          c := decide (t > 0xFF), z := r == 0, n := r.msb
          v := decide (s.a.toInt + m.toInt + s.flags.c.toNat < -128 ∨ 127 < s.a.toInt + m.toInt + s.flags.c.toNat) } }) ∧
    (∀ k, ReadFaults f.instr s k → Stops (exec f.instr s) k)

/-- SBC and its unofficial duplicate 0xEB (R161, R164, R235): A is the difference modulo 256, C the absence of a borrow, V the
signed overflow, Z and N from the difference. -/
def Obligations.SbcSubtractsWithBorrow : Prop :=
  ∀ (nn : Byte) (a : Word) (s : State), ∀ f ∈ ([⟨.sbcImm nn, 0xE9, 2, 2⟩, ⟨.sbcImmEB nn, 0xEB, 2, 2⟩, ⟨.sbcZp nn, 0xE5, 2, 3⟩,
      ⟨.sbcZpx nn, 0xF5, 2, 4⟩, ⟨.sbcAbs a, 0xED, 3, 4⟩, ⟨.sbcAbsx a, 0xFD, 3, 4⟩, ⟨.sbcAbsy a, 0xF9, 3, 4⟩,
      ⟨.sbcIndx nn, 0xE1, 2, 6⟩, ⟨.sbcIndy nn, 0xF1, 2, 5⟩] : List Form),
    f.instr.row.opcode = f.opcode ∧
    (∀ m crossed s1 t r, Supplies f.instr s m crossed s1 → t = (s.a.toNat : Int) - m.toNat - (1 - s.flags.c.toNat) →
      r = BitVec.ofInt 8 t → exec f.instr s = .next { s.after f crossed.toNat s1.ppuLog with
        a := r
        flags := { s.flags with
          c := decide (t ≥ 0), z := r == 0, n := r.msb
          v := (s.a.msb != m.msb) && (s.a.msb != r.msb) } }) ∧
    (∀ k, ReadFaults f.instr s k → Stops (exec f.instr s) k)

/-- AND, ORA, EOR (R165 to R167). -/
def Obligations.LogicCombinesWithA : Prop :=
  ∀ (nn : Byte) (a : Word) (s : State), ∀ p ∈ ([
      (⟨.andImm nn, 0x29, 2, 2⟩, fun u v => u &&& v), (⟨.andZp nn, 0x25, 2, 3⟩, fun u v => u &&& v),
      (⟨.andZpx nn, 0x35, 2, 4⟩, fun u v => u &&& v), (⟨.andAbs a, 0x2D, 3, 4⟩, fun u v => u &&& v),
      (⟨.andAbsx a, 0x3D, 3, 4⟩, fun u v => u &&& v), (⟨.andAbsy a, 0x39, 3, 4⟩, fun u v => u &&& v),
      (⟨.andIndx nn, 0x21, 2, 6⟩, fun u v => u &&& v), (⟨.andIndy nn, 0x31, 2, 5⟩, fun u v => u &&& v),
      (⟨.oraImm nn, 0x09, 2, 2⟩, fun u v => u ||| v), (⟨.oraZp nn, 0x05, 2, 3⟩, fun u v => u ||| v),
      (⟨.oraZpx nn, 0x15, 2, 4⟩, fun u v => u ||| v), (⟨.oraAbs a, 0x0D, 3, 4⟩, fun u v => u ||| v),
      (⟨.oraAbsx a, 0x1D, 3, 4⟩, fun u v => u ||| v), (⟨.oraAbsy a, 0x19, 3, 4⟩, fun u v => u ||| v),
      (⟨.oraIndx nn, 0x01, 2, 6⟩, fun u v => u ||| v), (⟨.oraIndy nn, 0x11, 2, 5⟩, fun u v => u ||| v),
      (⟨.eorImm nn, 0x49, 2, 2⟩, fun u v => u ^^^ v), (⟨.eorZp nn, 0x45, 2, 3⟩, fun u v => u ^^^ v),
      (⟨.eorZpx nn, 0x55, 2, 4⟩, fun u v => u ^^^ v), (⟨.eorAbs a, 0x4D, 3, 4⟩, fun u v => u ^^^ v),
      (⟨.eorAbsx a, 0x5D, 3, 4⟩, fun u v => u ^^^ v), (⟨.eorAbsy a, 0x59, 3, 4⟩, fun u v => u ^^^ v),
      (⟨.eorIndx nn, 0x41, 2, 6⟩, fun u v => u ^^^ v), (⟨.eorIndy nn, 0x51, 2, 5⟩, fun u v => u ^^^ v)] :
      List (Form × (Byte → Byte → Byte))),
    p.1.instr.row.opcode = p.1.opcode ∧
    (∀ m crossed s1 r, Supplies p.1.instr s m crossed s1 → r = p.2 s.a m →
      exec p.1.instr s = .next { s.after p.1 crossed.toNat s1.ppuLog with
        a := r, flags := { s.flags with z := r == 0, n := r.msb } }) ∧
    (∀ k, ReadFaults p.1.instr s k → Stops (exec p.1.instr s) k)

/-- BIT (R168): Z from A AND M, N and V from bits 7 and 6 of M; A is not written. -/
def Obligations.BitTestsMemory : Prop :=
  ∀ (nn : Byte) (a : Word) (s : State), ∀ f ∈ ([⟨.bitZp nn, 0x24, 2, 3⟩, ⟨.bitAbs a, 0x2C, 3, 4⟩] : List Form),
    f.instr.row.opcode = f.opcode ∧
    (∀ m crossed s1, Supplies f.instr s m crossed s1 → exec f.instr s = .next { s.after f 0 s1.ppuLog with
      flags := { s.flags with z := (s.a &&& m) == 0, n := m.getLsbD 7, v := m.getLsbD 6 } }) ∧
    (∀ k, ReadFaults f.instr s k → Stops (exec f.instr s) k)

/-- CMP, CPX, CPY (R162, R169 to R171): C is reg >= M, Z equality, N bit 7 of the difference; no register and no other flag is
written. -/
def Obligations.ComparesSetFlags : Prop :=
  ∀ (nn : Byte) (a : Word) (s : State), ∀ p ∈ ([
      (⟨.cmpImm nn, 0xC9, 2, 2⟩, s.a), (⟨.cmpZp nn, 0xC5, 2, 3⟩, s.a), (⟨.cmpZpx nn, 0xD5, 2, 4⟩, s.a),
      (⟨.cmpAbs a, 0xCD, 3, 4⟩, s.a), (⟨.cmpAbsx a, 0xDD, 3, 4⟩, s.a), (⟨.cmpAbsy a, 0xD9, 3, 4⟩, s.a),
      (⟨.cmpIndx nn, 0xC1, 2, 6⟩, s.a), (⟨.cmpIndy nn, 0xD1, 2, 5⟩, s.a),
      (⟨.cpxImm nn, 0xE0, 2, 2⟩, s.x), (⟨.cpxZp nn, 0xE4, 2, 3⟩, s.x), (⟨.cpxAbs a, 0xEC, 3, 4⟩, s.x),
      (⟨.cpyImm nn, 0xC0, 2, 2⟩, s.y), (⟨.cpyZp nn, 0xC4, 2, 3⟩, s.y), (⟨.cpyAbs a, 0xCC, 3, 4⟩, s.y)] :
      List (Form × Byte)),
    p.1.instr.row.opcode = p.1.opcode ∧
    (∀ m crossed s1, Supplies p.1.instr s m crossed s1 →
      exec p.1.instr s = .next { s.after p.1 crossed.toNat s1.ppuLog with
        flags := { s.flags with c := decide (p.2.toNat ≥ m.toNat), z := p.2 == m, n := (p.2 - m).msb } }) ∧
    (∀ k, ReadFaults p.1.instr s k → Stops (exec p.1.instr s) k)

/-- INC and DEC (R172, R173): one read of EA, one write of M + 1 or M - 1 to EA, Z and N from the written byte, no other flag
and no register; the fault is that of the read, or else that of the write. -/
def Obligations.IncDecUpdateMemory : Prop :=
  ∀ (nn : Byte) (a : Word) (s : State), ∀ p ∈ ([
      (⟨.incZp nn, 0xE6, 2, 5⟩, 1), (⟨.incZpx nn, 0xF6, 2, 6⟩, 1), (⟨.incAbs a, 0xEE, 3, 6⟩, 1), (⟨.incAbsx a, 0xFE, 3, 7⟩, 1),
      (⟨.decZp nn, 0xC6, 2, 5⟩, 0xFF), (⟨.decZpx nn, 0xD6, 2, 6⟩, 0xFF), (⟨.decAbs a, 0xCE, 3, 6⟩, 0xFF),
      (⟨.decAbsx a, 0xDE, 3, 7⟩, 0xFF)] : List (Form × Byte)),
    p.1.instr.row.opcode = p.1.opcode ∧
    ∃ ea crossed s1, Addresses p.1.instr s ea crossed s1 ∧
      (∀ m s2 r, memRead ea s1 = .ok (m, s2) → r = m + p.2 →
        (writable s ea = true → ∃ t, memWrite ea r s2 = .ok ((), t) ∧
          exec p.1.instr s = .next { s.after p.1 0 t.ppuLog with
            ram := t.ram, apu := t.apu, flags := { s.flags with z := r == 0, n := r.msb } }) ∧
        (∀ k, Fails (memWrite ea r s2) k → Stops (exec p.1.instr s) k)) ∧
      (∀ k, Fails (memRead ea s1) k → Stops (exec p.1.instr s) k)

/-- INX, INY, DEX, DEY (R174 to R177): the register steps modulo 256, Z and N from it, no other flag. -/
def Obligations.IndexRegistersStep : Prop :=
  ∀ s : State,
    (Instr.inx.row.opcode = 0xE8 ∧ Instr.iny.row.opcode = 0xC8 ∧ Instr.dex.row.opcode = 0xCA ∧
      Instr.dey.row.opcode = 0x88) ∧
    exec .inx s = .next { s.after ⟨.inx, 0xE8, 1, 2⟩ 0 s.ppuLog with
      x := s.x + 1, flags := { s.flags with z := s.x + 1 == 0, n := (s.x + 1).msb } } ∧
    exec .iny s = .next { s.after ⟨.iny, 0xC8, 1, 2⟩ 0 s.ppuLog with
      y := s.y + 1, flags := { s.flags with z := s.y + 1 == 0, n := (s.y + 1).msb } } ∧
    exec .dex s = .next { s.after ⟨.dex, 0xCA, 1, 2⟩ 0 s.ppuLog with
      x := s.x - 1, flags := { s.flags with z := s.x - 1 == 0, n := (s.x - 1).msb } } ∧
    exec .dey s = .next { s.after ⟨.dey, 0x88, 1, 2⟩ 0 s.ppuLog with
      y := s.y - 1, flags := { s.flags with z := s.y - 1 == 0, n := (s.y - 1).msb } }

/-! ## Shifts and rotates -/

/-- ASL, LSR, ROL, ROR on A (R190 to R195): the carry becomes the bit shifted out, the rotates take the old carry in; LSR
clears N, ROR copies the old C to N. -/
def Obligations.AccumulatorShifts : Prop :=
  ∀ s : State,
    (Instr.aslAcc.row.opcode = 0x0A ∧ Instr.lsrAcc.row.opcode = 0x4A ∧ Instr.rolAcc.row.opcode = 0x2A ∧
      Instr.rorAcc.row.opcode = 0x6A) ∧
    exec .aslAcc s = .next { s.after ⟨.aslAcc, 0x0A, 1, 2⟩ 0 s.ppuLog with
      a := BitVec.ofNat 8 (2 * s.a.toNat)
      flags := { s.flags with c := s.a.getLsbD 7, z := s.a.toNat % 0x80 == 0, n := s.a.getLsbD 6 } } ∧
    exec .lsrAcc s = .next { s.after ⟨.lsrAcc, 0x4A, 1, 2⟩ 0 s.ppuLog with
      a := BitVec.ofNat 8 (s.a.toNat / 2)
      flags := { s.flags with c := s.a.getLsbD 0, z := decide (s.a.toNat < 2), n := false } } ∧
    exec .rolAcc s = .next { s.after ⟨.rolAcc, 0x2A, 1, 2⟩ 0 s.ppuLog with
      a := BitVec.ofNat 8 (2 * s.a.toNat + s.flags.c.toNat)
      flags := { s.flags with
        c := s.a.getLsbD 7, z := s.a.toNat % 0x80 == 0 && !s.flags.c, n := s.a.getLsbD 6 } } ∧
    exec .rorAcc s = .next { s.after ⟨.rorAcc, 0x6A, 1, 2⟩ 0 s.ppuLog with
      a := BitVec.ofNat 8 (s.a.toNat / 2 + 0x80 * s.flags.c.toNat)
      flags := { s.flags with
        c := s.a.getLsbD 0, z := decide (s.a.toNat < 2) && !s.flags.c, n := s.flags.c } }

/-- ASL, LSR, ROL, ROR on memory (R190 to R195): one read of EA, one write of the shifted byte, C the bit shifted out, Z and N
from the written byte; A is not touched and there is no page-cross penalty. -/
def Obligations.MemoryShifts : Prop :=
  ∀ (nn : Byte) (a : Word) (s : State), ∀ p ∈ ([
      (⟨.aslZp nn, 0x06, 2, 5⟩, fun m _ => (2 * m, m / 0x80)), (⟨.aslZpx nn, 0x16, 2, 6⟩, fun m _ => (2 * m, m / 0x80)),
      (⟨.aslAbs a, 0x0E, 3, 6⟩, fun m _ => (2 * m, m / 0x80)), (⟨.aslAbsx a, 0x1E, 3, 7⟩, fun m _ => (2 * m, m / 0x80)),
      (⟨.lsrZp nn, 0x46, 2, 5⟩, fun m _ => (m / 2, m % 2)), (⟨.lsrZpx nn, 0x56, 2, 6⟩, fun m _ => (m / 2, m % 2)),
      (⟨.lsrAbs a, 0x4E, 3, 6⟩, fun m _ => (m / 2, m % 2)), (⟨.lsrAbsx a, 0x5E, 3, 7⟩, fun m _ => (m / 2, m % 2)),
      (⟨.rolZp nn, 0x26, 2, 5⟩, fun m c => (2 * m + c, m / 0x80)), (⟨.rolZpx nn, 0x36, 2, 6⟩, fun m c => (2 * m + c, m / 0x80)),
      (⟨.rolAbs a, 0x2E, 3, 6⟩, fun m c => (2 * m + c, m / 0x80)), (⟨.rolAbsx a, 0x3E, 3, 7⟩, fun m c => (2 * m + c, m / 0x80)),
      (⟨.rorZp nn, 0x66, 2, 5⟩, fun m c => (m / 2 + 0x80 * c, m % 2)),
      (⟨.rorZpx nn, 0x76, 2, 6⟩, fun m c => (m / 2 + 0x80 * c, m % 2)),
      (⟨.rorAbs a, 0x6E, 3, 6⟩, fun m c => (m / 2 + 0x80 * c, m % 2)),
      (⟨.rorAbsx a, 0x7E, 3, 7⟩, fun m c => (m / 2 + 0x80 * c, m % 2))] : List (Form × (Nat → Nat → Nat × Nat))),
    p.1.instr.row.opcode = p.1.opcode ∧
    ∃ ea crossed s1, Addresses p.1.instr s ea crossed s1 ∧
      (∀ m s2 r, memRead ea s1 = .ok (m, s2) → r = BitVec.ofNat 8 (p.2 m.toNat s.flags.c.toNat).1 →
        (writable s ea = true → ∃ t, memWrite ea r s2 = .ok ((), t) ∧
          exec p.1.instr s = .next { s.after p.1 0 t.ppuLog with
            ram := t.ram, apu := t.apu
            flags := { s.flags with c := (p.2 m.toNat s.flags.c.toNat).2 == 1, z := r == 0, n := r.msb } }) ∧
        (∀ k, Fails (memWrite ea r s2) k → Stops (exec p.1.instr s) k)) ∧
      (∀ k, Fails (memRead ea s1) k → Stops (exec p.1.instr s) k)

/-! ## Control transfer -/

/-- The eight branches (R200 to R208): not taken, PC moves past the instruction at cost 2; taken, PC is that address plus the
signed displacement modulo 2^16, at cost 3 in the same page as that address and 4 in another. Nothing else changes. -/
def Obligations.BranchesFollowFlags : Prop :=
  ∀ (nn : Byte) (s : State) (target : Word), target = BitVec.ofInt 16 ((s.pc + 2).toNat + nn.toInt) →
    ∀ p ∈ ([(⟨.bcc nn, 0x90, 2, 2⟩, !s.flags.c), (⟨.bcs nn, 0xB0, 2, 2⟩, s.flags.c), (⟨.beq nn, 0xF0, 2, 2⟩, s.flags.z),
      (⟨.bne nn, 0xD0, 2, 2⟩, !s.flags.z), (⟨.bmi nn, 0x30, 2, 2⟩, s.flags.n), (⟨.bpl nn, 0x10, 2, 2⟩, !s.flags.n),
      (⟨.bvc nn, 0x50, 2, 2⟩, !s.flags.v), (⟨.bvs nn, 0x70, 2, 2⟩, s.flags.v)] : List (Form × Bool)),
    p.1.instr.row.opcode = p.1.opcode ∧
    (p.2 = false → exec p.1.instr s = .next (s.after p.1 0 s.ppuLog)) ∧
    (p.2 = true → exec p.1.instr s = .next { s.after p.1
      (if (s.pc + 2).toNat / 0x100 = target.toNat / 0x100 then 1 else 2) s.ppuLog with pc := target })

/-- JMP (R209): absolute, PC is the operand; indirect, PC is read through the pointer with the page bug, and the fault of a
pointer read, UnmappedAddress or ConfigError, is the step's. -/
def Obligations.JmpSetsPc : Prop :=
  ∀ (a : Word) (s : State),
    ((Instr.jmpAbs a).row.opcode = 0x4C ∧ (Instr.jmpInd a).row.opcode = 0x6C) ∧
    exec (.jmpAbs a) s = .next { s.after ⟨.jmpAbs a, 0x4C, 3, 3⟩ 0 s.ppuLog with pc := a } ∧
    (∀ target s1, read16Bug a s = .ok (target, s1) →
      exec (.jmpInd a) s = .next { s.after ⟨.jmpInd a, 0x6C, 3, 5⟩ 0 s1.ppuLog with pc := target }) ∧
    (∀ k, Fails (read16Bug a s) k → Stops (exec (.jmpInd a) s) k ∧
      ((∃ p, k = .unmappedAddress p .read) ∨ ∃ off, k = .configError off))

/-- JSR and RTS (R210, R211): JSR pushes the address of its last byte, high byte first, and PC is the operand; RTS sets PC to
the pulled address plus 1, modulo 2^16. -/
def Obligations.JsrCallsRtsReturns : Prop :=
  (∀ (a : Word) (s : State),
    ((Instr.jsr a).row.opcode = 0x20 ∧ Instr.rts.row.opcode = 0x60) ∧
    exec (.jsr a) s = .next { s.after ⟨.jsr a, 0x20, 3, 6⟩ 0 s.ppuLog with
      pc := a, sp := s.sp - 2
      ram := (s.ram.set (0x100 + s.sp.toNat) (hiByte (s.pc + 2))).set (0x100 + (s.sp - 1).toNat) (loByte (s.pc + 2)) }) ∧
  (∀ (s : State) (l h : Byte), s.peek (BitVec.ofNat 16 (0x100 + (s.sp + 1).toNat)) = some l →
    s.peek (BitVec.ofNat 16 (0x100 + (s.sp + 2).toNat)) = some h →
    exec .rts s = .next { s.after ⟨.rts, 0x60, 1, 6⟩ 0 s.ppuLog with pc := cat h l + 1, sp := s.sp + 2 })

/-- RTI (R212, R265): the six flags from the pulled status byte, then PC, to which nothing is added. -/
def Obligations.RtiRestoresStatusAndPc : Prop :=
  Instr.rti.row.opcode = 0x40 ∧
  ∀ (s : State) (p l h : Byte), s.peek (BitVec.ofNat 16 (0x100 + (s.sp + 1).toNat)) = some p →
    s.peek (BitVec.ofNat 16 (0x100 + (s.sp + 2).toNat)) = some l →
    s.peek (BitVec.ofNat 16 (0x100 + (s.sp + 3).toNat)) = some h →
    exec .rti s = .next { s.after ⟨.rti, 0x40, 1, 6⟩ 0 s.ppuLog with
      pc := cat h l, sp := s.sp + 3
      flags := { c := p.getLsbD 0, z := p.getLsbD 1, i := p.getLsbD 2, d := p.getLsbD 3, v := p.getLsbD 6, n := p.getLsbD 7 } }

/-- BRK (R213, R264): pc0 + 2 is pushed high byte first, then Pack(1) with the flags before I is set; I is set whatever it was;
PC is read from 0xFFFE and 0xFFFF, which are PRG offsets above PRG_UPPER_BASE, and a ConfigError of that read is the step's. -/
def Obligations.BrkEntersHandler : Prop :=
  ∀ (s : State),
    Instr.brk.row.opcode = 0x00 ∧
    (∀ l h, readPRG s.cart (0x3FFE + s.params.prgUpperBase) = some l →
      readPRG s.cart (0x3FFF + s.params.prgUpperBase) = some h →
      exec .brk s = .next { s.after ⟨.brk, 0x00, 1, 7⟩ 0 s.ppuLog with
        pc := cat h l, sp := s.sp - 3, flags := { s.flags with i := true }
        ram := ((s.ram.set (0x100 + s.sp.toNat) (hiByte (s.pc + 2))).set (0x100 + (s.sp - 1).toNat)
          (loByte (s.pc + 2))).set (0x100 + (s.sp - 2).toNat) (s.flags.pack true) }) ∧
    (readPRG s.cart (0x3FFE + s.params.prgUpperBase) = none →
      Stops (exec .brk s) (.configError (0x3FFE + s.params.prgUpperBase))) ∧
    (∀ l, readPRG s.cart (0x3FFE + s.params.prgUpperBase) = some l →
      readPRG s.cart (0x3FFF + s.params.prgUpperBase) = none →
      Stops (exec .brk s) (.configError (0x3FFF + s.params.prgUpperBase)))

/-! ## Flag instructions and NOPs -/

/-- The seven flag instructions write exactly their one flag (R220 to R226). -/
def Obligations.FlagInstructionsWriteOneFlag : Prop :=
  ∀ s : State,
    (Instr.clc.row.opcode = 0x18 ∧ Instr.sec.row.opcode = 0x38 ∧ Instr.cli.row.opcode = 0x58 ∧
      Instr.sei.row.opcode = 0x78 ∧ Instr.cld.row.opcode = 0xD8 ∧ Instr.sed.row.opcode = 0xF8 ∧
      Instr.clv.row.opcode = 0xB8) ∧
    exec .clc s = .next { s.after ⟨.clc, 0x18, 1, 2⟩ 0 s.ppuLog with flags := { s.flags with c := false } } ∧
    exec .sec s = .next { s.after ⟨.sec, 0x38, 1, 2⟩ 0 s.ppuLog with flags := { s.flags with c := true } } ∧
    exec .cli s = .next { s.after ⟨.cli, 0x58, 1, 2⟩ 0 s.ppuLog with flags := { s.flags with i := false } } ∧
    exec .sei s = .next { s.after ⟨.sei, 0x78, 1, 2⟩ 0 s.ppuLog with flags := { s.flags with i := true } } ∧
    exec .cld s = .next { s.after ⟨.cld, 0xD8, 1, 2⟩ 0 s.ppuLog with flags := { s.flags with d := false } } ∧
    exec .sed s = .next { s.after ⟨.sed, 0xF8, 1, 2⟩ 0 s.ppuLog with flags := { s.flags with d := true } } ∧
    exec .clv s = .next { s.after ⟨.clv, 0xB8, 1, 2⟩ 0 s.ppuLog with flags := { s.flags with v := false } }

/-- The seven implied NOPs only advance PC by 1 and cost 2 (R227, R231). -/
def Obligations.ImpliedNopsOnlyAdvance : Prop :=
  ∀ s : State, ∀ f ∈ ([⟨.nop, 0xEA, 1, 2⟩, ⟨.nop1A, 0x1A, 1, 2⟩, ⟨.nop3A, 0x3A, 1, 2⟩, ⟨.nop5A, 0x5A, 1, 2⟩,
      ⟨.nop7A, 0x7A, 1, 2⟩, ⟨.nopDA, 0xDA, 1, 2⟩, ⟨.nopFA, 0xFA, 1, 2⟩] : List Form),
    f.instr.row.opcode = f.opcode ∧ exec f.instr s = .next (s.after f 0 s.ppuLog)

/-- The unofficial NOPs with an operand (R232): the memory forms read EA once, which may be a PPU access or fault; no register,
flag or memory byte changes. -/
def Obligations.OperandNopsOnlyRead : Prop :=
  ∀ (nn : Byte) (a : Word) (s : State), ∀ f ∈ ([
      ⟨.nopImm80 nn, 0x80, 2, 2⟩, ⟨.nopImm82 nn, 0x82, 2, 2⟩, ⟨.nopImm89 nn, 0x89, 2, 2⟩, ⟨.nopImmC2 nn, 0xC2, 2, 2⟩,
      ⟨.nopImmE2 nn, 0xE2, 2, 2⟩, ⟨.nopZp04 nn, 0x04, 2, 3⟩, ⟨.nopZp44 nn, 0x44, 2, 3⟩, ⟨.nopZp64 nn, 0x64, 2, 3⟩,
      ⟨.nopZpx14 nn, 0x14, 2, 4⟩, ⟨.nopZpx34 nn, 0x34, 2, 4⟩, ⟨.nopZpx54 nn, 0x54, 2, 4⟩, ⟨.nopZpx74 nn, 0x74, 2, 4⟩,
      ⟨.nopZpxD4 nn, 0xD4, 2, 4⟩, ⟨.nopZpxF4 nn, 0xF4, 2, 4⟩, ⟨.nopAbs a, 0x0C, 3, 4⟩, ⟨.nopAbsx1C a, 0x1C, 3, 4⟩,
      ⟨.nopAbsx3C a, 0x3C, 3, 4⟩, ⟨.nopAbsx5C a, 0x5C, 3, 4⟩, ⟨.nopAbsx7C a, 0x7C, 3, 4⟩, ⟨.nopAbsxDC a, 0xDC, 3, 4⟩,
      ⟨.nopAbsxFC a, 0xFC, 3, 4⟩] : List Form),
    f.instr.row.opcode = f.opcode ∧
    (∀ m crossed s1, Supplies f.instr s m crossed s1 → exec f.instr s = .next (s.after f crossed.toNat s1.ppuLog)) ∧
    (∀ k, ReadFaults f.instr s k → Stops (exec f.instr s) k)

/-! ## Unofficial instructions -/

/-- LAX (R233): A and X both get M; Z and N from M. -/
def Obligations.LaxLoadsAAndX : Prop :=
  ∀ (nn : Byte) (a : Word) (s : State), ∀ f ∈ ([⟨.laxZp nn, 0xA7, 2, 3⟩, ⟨.laxZpy nn, 0xB7, 2, 4⟩, ⟨.laxAbs a, 0xAF, 3, 4⟩,
      ⟨.laxAbsy a, 0xBF, 3, 4⟩, ⟨.laxIndx nn, 0xA3, 2, 6⟩, ⟨.laxIndy nn, 0xB3, 2, 5⟩] : List Form),
    f.instr.row.opcode = f.opcode ∧
    (∀ m crossed s1, Supplies f.instr s m crossed s1 → exec f.instr s = .next { s.after f crossed.toNat s1.ppuLog with
      a := m, x := m, flags := { s.flags with z := m == 0, n := m.msb } }) ∧
    (∀ k, ReadFaults f.instr s k → Stops (exec f.instr s) k)

/-- DCP (R236): M - 1 is written to EA and A is compared with the written byte. -/
def Obligations.DcpDecrementsAndCompares : Prop :=
  ∀ (nn : Byte) (a : Word) (s : State), ∀ f ∈ ([⟨.dcpZp nn, 0xC7, 2, 5⟩, ⟨.dcpZpx nn, 0xD7, 2, 6⟩, ⟨.dcpAbs a, 0xCF, 3, 6⟩,
      ⟨.dcpAbsx a, 0xDF, 3, 7⟩, ⟨.dcpAbsy a, 0xDB, 3, 7⟩, ⟨.dcpIndx nn, 0xC3, 2, 8⟩, ⟨.dcpIndy nn, 0xD3, 2, 8⟩] : List Form),
    f.instr.row.opcode = f.opcode ∧
    ∃ ea crossed s1, Addresses f.instr s ea crossed s1 ∧
      (∀ m s2 r, memRead ea s1 = .ok (m, s2) → r = m - 1 →
        (writable s ea = true → ∃ t, memWrite ea r s2 = .ok ((), t) ∧
          exec f.instr s = .next { s.after f 0 t.ppuLog with
            ram := t.ram, apu := t.apu
            flags := { s.flags with c := decide (s.a.toNat ≥ r.toNat), z := s.a == r, n := (s.a - r).msb } }) ∧
        (∀ k, Fails (memWrite ea r s2) k → Stops (exec f.instr s) k)) ∧
      (∀ k, Fails (memRead ea s1) k → Stops (exec f.instr s) k)

/-- ISB (R161, R237): M + 1 is written to EA and subtracted from A with the borrow. -/
def Obligations.IsbIncrementsAndSubtracts : Prop :=
  ∀ (nn : Byte) (a : Word) (s : State), ∀ f ∈ ([⟨.isbZp nn, 0xE7, 2, 5⟩, ⟨.isbZpx nn, 0xF7, 2, 6⟩, ⟨.isbAbs a, 0xEF, 3, 6⟩,
      ⟨.isbAbsx a, 0xFF, 3, 7⟩, ⟨.isbAbsy a, 0xFB, 3, 7⟩, ⟨.isbIndx nn, 0xE3, 2, 8⟩, ⟨.isbIndy nn, 0xF3, 2, 8⟩] : List Form),
    f.instr.row.opcode = f.opcode ∧
    ∃ ea crossed s1, Addresses f.instr s ea crossed s1 ∧
      (∀ m s2 r d w, memRead ea s1 = .ok (m, s2) → r = m + 1 →
        d = (s.a.toNat : Int) - r.toNat - (1 - s.flags.c.toNat) → w = BitVec.ofInt 8 d →
        (writable s ea = true → ∃ t, memWrite ea r s2 = .ok ((), t) ∧
          exec f.instr s = .next { s.after f 0 t.ppuLog with
            ram := t.ram, apu := t.apu, a := w
            flags := { s.flags with
              c := decide (d ≥ 0), z := w == 0, n := w.msb, v := (s.a.msb != r.msb) && (s.a.msb != w.msb) } }) ∧
        (∀ k, Fails (memWrite ea r s2) k → Stops (exec f.instr s) k)) ∧
      (∀ k, Fails (memRead ea s1) k → Stops (exec f.instr s) k)

/-- SLO, RLA, SRE (R238 to R240): the shifted byte r is written to EA, C is the bit shifted out, A is combined with r by OR,
AND, EOR, and Z and N come from the new A. -/
def Obligations.ShiftCombinationsUpdateA : Prop :=
  ∀ (nn : Byte) (a : Word) (s : State), ∀ p ∈ ([
      (⟨.sloZp nn, 0x07, 2, 5⟩, .SLO), (⟨.sloZpx nn, 0x17, 2, 6⟩, .SLO), (⟨.sloAbs a, 0x0F, 3, 6⟩, .SLO),
      (⟨.sloAbsx a, 0x1F, 3, 7⟩, .SLO), (⟨.sloAbsy a, 0x1B, 3, 7⟩, .SLO), (⟨.sloIndx nn, 0x03, 2, 8⟩, .SLO),
      (⟨.sloIndy nn, 0x13, 2, 8⟩, .SLO),
      (⟨.rlaZp nn, 0x27, 2, 5⟩, .RLA), (⟨.rlaZpx nn, 0x37, 2, 6⟩, .RLA), (⟨.rlaAbs a, 0x2F, 3, 6⟩, .RLA),
      (⟨.rlaAbsx a, 0x3F, 3, 7⟩, .RLA), (⟨.rlaAbsy a, 0x3B, 3, 7⟩, .RLA), (⟨.rlaIndx nn, 0x23, 2, 8⟩, .RLA),
      (⟨.rlaIndy nn, 0x33, 2, 8⟩, .RLA),
      (⟨.sreZp nn, 0x47, 2, 5⟩, .SRE), (⟨.sreZpx nn, 0x57, 2, 6⟩, .SRE), (⟨.sreAbs a, 0x4F, 3, 6⟩, .SRE),
      (⟨.sreAbsx a, 0x5F, 3, 7⟩, .SRE), (⟨.sreAbsy a, 0x5B, 3, 7⟩, .SRE), (⟨.sreIndx nn, 0x43, 2, 8⟩, .SRE),
      (⟨.sreIndy nn, 0x53, 2, 8⟩, .SRE)] : List (Form × Mnemonic)),
    p.1.instr.row.opcode = p.1.opcode ∧
    ∃ ea crossed s1, Addresses p.1.instr s ea crossed s1 ∧
      (∀ m s2 r w c, memRead ea s1 = .ok (m, s2) →
        (p.2 = .SLO → r = BitVec.ofNat 8 (2 * m.toNat) ∧ c = m.getLsbD 7 ∧ w = s.a ||| r) →
        (p.2 = .RLA → r = BitVec.ofNat 8 (2 * m.toNat + s.flags.c.toNat) ∧ c = m.getLsbD 7 ∧ w = s.a &&& r) →
        (p.2 = .SRE → r = BitVec.ofNat 8 (m.toNat / 2) ∧ c = m.getLsbD 0 ∧ w = s.a ^^^ r) →
        (writable s ea = true → ∃ t, memWrite ea r s2 = .ok ((), t) ∧
          exec p.1.instr s = .next { s.after p.1 0 t.ppuLog with
            ram := t.ram, apu := t.apu, a := w, flags := { s.flags with c := c, z := w == 0, n := w.msb } }) ∧
        (∀ k, Fails (memWrite ea r s2) k → Stops (exec p.1.instr s) k)) ∧
      (∀ k, Fails (memRead ea s1) k → Stops (exec p.1.instr s) k)

/-- RRA (R160, R241): the rotated byte r is written to EA and added to A with the bit rotated out as carry-in. -/
def Obligations.RraRotatesAndAdds : Prop :=
  ∀ (nn : Byte) (a : Word) (s : State), ∀ f ∈ ([⟨.rraZp nn, 0x67, 2, 5⟩, ⟨.rraZpx nn, 0x77, 2, 6⟩, ⟨.rraAbs a, 0x6F, 3, 6⟩,
      ⟨.rraAbsx a, 0x7F, 3, 7⟩, ⟨.rraAbsy a, 0x7B, 3, 7⟩, ⟨.rraIndx nn, 0x63, 2, 8⟩, ⟨.rraIndy nn, 0x73, 2, 8⟩] : List Form),
    f.instr.row.opcode = f.opcode ∧
    ∃ ea crossed s1, Addresses f.instr s ea crossed s1 ∧
      (∀ m s2 r d w, memRead ea s1 = .ok (m, s2) → r = BitVec.ofNat 8 (m.toNat / 2 + 0x80 * s.flags.c.toNat) →
        d = s.a.toNat + r.toNat + m.toNat % 2 → w = BitVec.ofNat 8 d →
        (writable s ea = true → ∃ t, memWrite ea r s2 = .ok ((), t) ∧
          exec f.instr s = .next { s.after f 0 t.ppuLog with
            ram := t.ram, apu := t.apu, a := w
            flags := { s.flags with
              c := decide (d > 0xFF), z := w == 0, n := w.msb
              v := (s.a.msb == r.msb) && (s.a.msb != w.msb) } }) ∧
        (∀ k, Fails (memWrite ea r s2) k → Stops (exec f.instr s) k)) ∧
      (∀ k, Fails (memRead ea s1) k → Stops (exec f.instr s) k)

/-! ## Frames over all instructions -/

/-- A, X, Y and SP are written only by the instructions R20 to R23 list, in the modes they list. -/
def Obligations.RegisterWriters : Prop :=
  ∀ (i : Instr) (s t : State), exec i s = .next t →
    (i.row.mnemonic ∉ ([.LDA, .PLA, .TXA, .TYA, .ADC, .SBC, .AND, .ORA, .EOR, .LAX, .ISB, .SLO, .RLA, .SRE, .RRA] :
        List Mnemonic) → i.row.operand ≠ .acc → t.a = s.a) ∧
    (i.row.mnemonic ∉ ([.LDX, .TAX, .TSX, .INX, .DEX, .LAX] : List Mnemonic) → t.x = s.x) ∧
    (i.row.mnemonic ∉ ([.LDY, .TAY, .INY, .DEY] : List Mnemonic) → t.y = s.y) ∧
    (i.row.mnemonic ∉ ([.TXS, .PHA, .PHP, .PLA, .PLP, .JSR, .RTS, .RTI, .BRK] : List Mnemonic) → t.sp = s.sp)

/-- Each flag is written only by the instructions the table of R25 lists for it. -/
def Obligations.FlagWriters : Prop :=
  ∀ (i : Instr) (s t : State), exec i s = .next t →
    (i.row.mnemonic ∉ ([.ADC, .SBC, .CMP, .CPX, .CPY, .ASL, .LSR, .ROL, .ROR, .CLC, .SEC, .PLP, .RTI, .DCP, .ISB, .SLO, .RLA,
        .SRE, .RRA] : List Mnemonic) → t.flags.c = s.flags.c) ∧
    (i.row.mnemonic ∉ ([.LDA, .LDX, .LDY, .TAX, .TAY, .TXA, .TYA, .TSX, .PLA, .ADC, .SBC, .AND, .ORA, .EOR, .BIT, .CMP, .CPX,
        .CPY, .INC, .DEC, .INX, .INY, .DEX, .DEY, .ASL, .LSR, .ROL, .ROR, .PLP, .RTI, .LAX, .DCP, .ISB, .SLO, .RLA, .SRE,
        .RRA] : List Mnemonic) → t.flags.z = s.flags.z ∧ t.flags.n = s.flags.n) ∧
    (i.row.mnemonic ∉ ([.SEI, .CLI, .PLP, .RTI, .BRK] : List Mnemonic) → t.flags.i = s.flags.i) ∧
    (i.row.mnemonic ∉ ([.SED, .CLD, .PLP, .RTI] : List Mnemonic) → t.flags.d = s.flags.d) ∧
    (i.row.mnemonic ∉ ([.ADC, .SBC, .BIT, .CLV, .PLP, .RTI, .ISB, .RRA] : List Mnemonic) → t.flags.v = s.flags.v)

/-- Only stores, read-modify-writes on memory and pushes change memory: every other instruction leaves every byte as it was
(R41, R115, R130). -/
def Obligations.NonStoringInstructionsKeepMemory : Prop :=
  ∀ (i : Instr) (s t : State), exec i s = .next t → i.row.access ≠ .write → i.row.access ≠ .rmw →
    i.row.mnemonic ∉ ([.PHA, .PHP, .JSR, .BRK] : List Mnemonic) → SameMemory s t

/-- A store or a read-modify-write changes no byte but the one at its effective address, as the resolver gives it, and the
mirrors of that cell (R43, R115 e and f). -/
def Obligations.StoringInstructionsChangeOneCell : Prop :=
  ∀ (i : Instr) (s t : State), exec i s = .next t → i.row.access = .write ∨ i.row.access = .rmw →
    ∃ ea crossed s1, Addresses i s ea crossed s1 ∧ SameMemoryBut [ea] s t

/-- A push changes no byte but the stack slots it fills: one for PHA and PHP, two for JSR, three for BRK, counted down from
0x0100 + SP with wrap inside page 1 (R59, R60). -/
def Obligations.PushingInstructionsChangeStackSlots : Prop :=
  ∀ (i : Instr) (s t : State), exec i s = .next t →
    (i.row.mnemonic = .PHA ∨ i.row.mnemonic = .PHP → SameMemoryBut [stackAddr s.sp] s t) ∧
    (i.row.mnemonic = .JSR → SameMemoryBut [stackAddr s.sp, stackAddr (s.sp - 1)] s t) ∧
    (i.row.mnemonic = .BRK → SameMemoryBut [stackAddr s.sp, stackAddr (s.sp - 1), stackAddr (s.sp - 2)] s t)

/-- Every instruction that is no branch, jump, call, return or break moves PC past its own bytes, modulo 2^16, and to nowhere
else (R24, R113). -/
def Obligations.OnlyControlTransfersRedirectPc : Prop :=
  ∀ (i : Instr) (s t : State), exec i s = .next t →
    i.row.mnemonic ∉ ([.BCC, .BCS, .BEQ, .BNE, .BMI, .BPL, .BVC, .BVS, .JMP, .JSR, .RTS, .RTI, .BRK] : List Mnemonic) →
    t.pc = s.pc + BitVec.ofNat 16 (encode i).length

/-! ## Whole-machine consequences -/

/-- SubCore gives the result and flags of AddCore on the complement; V of AddCore is the signed overflow; and D changes neither
the byte nor any other flag and is handed through (R160, R161; 92 D2). -/
def Obligations.AluCoresAgree : Prop :=
  ∀ (a m : Byte) (f : Flags) (d : Bool), subCore a m f = addCore a (m ^^^ 0xFF) f ∧
    (addCore a m f).2.v = decide (a.toInt + m.toInt + f.c.toNat < -128 ∨ 127 < a.toInt + m.toInt + f.c.toNat) ∧
    addCore a m { f with d := d } = ((addCore a m f).1, { (addCore a m f).2 with d := d }) ∧
    (addCore a m f).2.d = f.d

/-- PHP then PLP gives back the six flags and SP, for every flag combination and every stack pointer; and a pulled byte v makes
the live P (v AND 0xCF) OR 0x20 (R28, R151, R153; 95 S2). -/
def Obligations.PhpThenPlpRestoresFlags : Prop :=
  (∀ s : State, ∃ t u, exec .php s = .next t ∧ exec .plp t = .next u ∧ u.flags = s.flags ∧ u.sp = s.sp ∧ u.a = s.a) ∧
  (∀ v : Byte, (Flags.unpack v).pack false = (v &&& 0xCF) ||| 0x20) ∧
  (∀ f : Flags, ∀ b : Bool, Flags.unpack (f.pack b) = f)

/-- RTS after JSR resumes at the instruction after the JSR with SP as it was; RTI after BRK resumes at pc0 + 2 with SP and all
six flags, I among them, as they were (R210 to R213, R265). -/
def Obligations.ReturnsUndoCalls : Prop :=
  (∀ (s : State) (a : Word), ∃ t u, exec (.jsr a) s = .next t ∧ exec .rts t = .next u ∧ t.pc = a ∧
    u.pc = s.pc + 3 ∧ u.sp = s.sp ∧ u.flags = s.flags) ∧
  (∀ s t : State, exec .brk s = .next t → t.flags.i = true ∧
    ∃ u, exec .rti t = .next u ∧ u.pc = s.pc + 2 ∧ u.sp = s.sp ∧ u.flags = s.flags)
end

