-- ==== Sys2Proof/Laws/State.lean ====
section
/-! SUPPORT. One lemma per field per update of the state, so that no proof unfolds a record update. -/

namespace Sys2Proof.Machine

variable (s : State)

/-! ### setA -/

@[simp] theorem State.setA_a (v : Byte) : (s.setA v).a = v := rfl
@[simp] theorem State.setA_x (v : Byte) : (s.setA v).x = s.x := rfl
@[simp] theorem State.setA_y (v : Byte) : (s.setA v).y = s.y := rfl
@[simp] theorem State.setA_sp (v : Byte) : (s.setA v).sp = s.sp := rfl
@[simp] theorem State.setA_pc (v : Byte) : (s.setA v).pc = s.pc := rfl
@[simp] theorem State.setA_flags (v : Byte) : (s.setA v).flags = s.flags := rfl
@[simp] theorem State.setA_cycles (v : Byte) : (s.setA v).cycles = s.cycles := rfl
@[simp] theorem State.setA_ram (v : Byte) : (s.setA v).ram = s.ram := rfl
@[simp] theorem State.setA_apu (v : Byte) : (s.setA v).apu = s.apu := rfl
@[simp] theorem State.setA_cart (v : Byte) : (s.setA v).cart = s.cart := rfl
@[simp] theorem State.setA_params (v : Byte) : (s.setA v).params = s.params := rfl
@[simp] theorem State.setA_ppuLog (v : Byte) : (s.setA v).ppuLog = s.ppuLog := rfl
@[simp] theorem State.setA_faultMark (v : Byte) : (s.setA v).faultMark = s.faultMark := rfl
@[simp] theorem State.setA_target (v : Byte) (ad : Word) : (s.setA v).target ad = s.target ad := rfl
@[simp] theorem State.setA_peek (v : Byte) (ad : Word) : (s.setA v).peek ad = s.peek ad := rfl

/-! ### setX -/

@[simp] theorem State.setX_a (v : Byte) : (s.setX v).a = s.a := rfl
@[simp] theorem State.setX_x (v : Byte) : (s.setX v).x = v := rfl
@[simp] theorem State.setX_y (v : Byte) : (s.setX v).y = s.y := rfl
@[simp] theorem State.setX_sp (v : Byte) : (s.setX v).sp = s.sp := rfl
@[simp] theorem State.setX_pc (v : Byte) : (s.setX v).pc = s.pc := rfl
@[simp] theorem State.setX_flags (v : Byte) : (s.setX v).flags = s.flags := rfl
@[simp] theorem State.setX_cycles (v : Byte) : (s.setX v).cycles = s.cycles := rfl
@[simp] theorem State.setX_ram (v : Byte) : (s.setX v).ram = s.ram := rfl
@[simp] theorem State.setX_apu (v : Byte) : (s.setX v).apu = s.apu := rfl
@[simp] theorem State.setX_cart (v : Byte) : (s.setX v).cart = s.cart := rfl
@[simp] theorem State.setX_params (v : Byte) : (s.setX v).params = s.params := rfl
@[simp] theorem State.setX_ppuLog (v : Byte) : (s.setX v).ppuLog = s.ppuLog := rfl
@[simp] theorem State.setX_faultMark (v : Byte) : (s.setX v).faultMark = s.faultMark := rfl
@[simp] theorem State.setX_target (v : Byte) (ad : Word) : (s.setX v).target ad = s.target ad := rfl
@[simp] theorem State.setX_peek (v : Byte) (ad : Word) : (s.setX v).peek ad = s.peek ad := rfl

/-! ### setY -/

@[simp] theorem State.setY_a (v : Byte) : (s.setY v).a = s.a := rfl
@[simp] theorem State.setY_x (v : Byte) : (s.setY v).x = s.x := rfl
@[simp] theorem State.setY_y (v : Byte) : (s.setY v).y = v := rfl
@[simp] theorem State.setY_sp (v : Byte) : (s.setY v).sp = s.sp := rfl
@[simp] theorem State.setY_pc (v : Byte) : (s.setY v).pc = s.pc := rfl
@[simp] theorem State.setY_flags (v : Byte) : (s.setY v).flags = s.flags := rfl
@[simp] theorem State.setY_cycles (v : Byte) : (s.setY v).cycles = s.cycles := rfl
@[simp] theorem State.setY_ram (v : Byte) : (s.setY v).ram = s.ram := rfl
@[simp] theorem State.setY_apu (v : Byte) : (s.setY v).apu = s.apu := rfl
@[simp] theorem State.setY_cart (v : Byte) : (s.setY v).cart = s.cart := rfl
@[simp] theorem State.setY_params (v : Byte) : (s.setY v).params = s.params := rfl
@[simp] theorem State.setY_ppuLog (v : Byte) : (s.setY v).ppuLog = s.ppuLog := rfl
@[simp] theorem State.setY_faultMark (v : Byte) : (s.setY v).faultMark = s.faultMark := rfl
@[simp] theorem State.setY_target (v : Byte) (ad : Word) : (s.setY v).target ad = s.target ad := rfl
@[simp] theorem State.setY_peek (v : Byte) (ad : Word) : (s.setY v).peek ad = s.peek ad := rfl

/-! ### setSP -/

@[simp] theorem State.setSP_a (v : Byte) : (s.setSP v).a = s.a := rfl
@[simp] theorem State.setSP_x (v : Byte) : (s.setSP v).x = s.x := rfl
@[simp] theorem State.setSP_y (v : Byte) : (s.setSP v).y = s.y := rfl
@[simp] theorem State.setSP_sp (v : Byte) : (s.setSP v).sp = v := rfl
@[simp] theorem State.setSP_pc (v : Byte) : (s.setSP v).pc = s.pc := rfl
@[simp] theorem State.setSP_flags (v : Byte) : (s.setSP v).flags = s.flags := rfl
@[simp] theorem State.setSP_cycles (v : Byte) : (s.setSP v).cycles = s.cycles := rfl
@[simp] theorem State.setSP_ram (v : Byte) : (s.setSP v).ram = s.ram := rfl
@[simp] theorem State.setSP_apu (v : Byte) : (s.setSP v).apu = s.apu := rfl
@[simp] theorem State.setSP_cart (v : Byte) : (s.setSP v).cart = s.cart := rfl
@[simp] theorem State.setSP_params (v : Byte) : (s.setSP v).params = s.params := rfl
@[simp] theorem State.setSP_ppuLog (v : Byte) : (s.setSP v).ppuLog = s.ppuLog := rfl
@[simp] theorem State.setSP_faultMark (v : Byte) : (s.setSP v).faultMark = s.faultMark := rfl
@[simp] theorem State.setSP_target (v : Byte) (ad : Word) : (s.setSP v).target ad = s.target ad := rfl
@[simp] theorem State.setSP_peek (v : Byte) (ad : Word) : (s.setSP v).peek ad = s.peek ad := rfl

/-! ### setPC -/

@[simp] theorem State.setPC_a (v : Word) : (s.setPC v).a = s.a := rfl
@[simp] theorem State.setPC_x (v : Word) : (s.setPC v).x = s.x := rfl
@[simp] theorem State.setPC_y (v : Word) : (s.setPC v).y = s.y := rfl
@[simp] theorem State.setPC_sp (v : Word) : (s.setPC v).sp = s.sp := rfl
@[simp] theorem State.setPC_pc (v : Word) : (s.setPC v).pc = v := rfl
@[simp] theorem State.setPC_flags (v : Word) : (s.setPC v).flags = s.flags := rfl
@[simp] theorem State.setPC_cycles (v : Word) : (s.setPC v).cycles = s.cycles := rfl
@[simp] theorem State.setPC_ram (v : Word) : (s.setPC v).ram = s.ram := rfl
@[simp] theorem State.setPC_apu (v : Word) : (s.setPC v).apu = s.apu := rfl
@[simp] theorem State.setPC_cart (v : Word) : (s.setPC v).cart = s.cart := rfl
@[simp] theorem State.setPC_params (v : Word) : (s.setPC v).params = s.params := rfl
@[simp] theorem State.setPC_ppuLog (v : Word) : (s.setPC v).ppuLog = s.ppuLog := rfl
@[simp] theorem State.setPC_faultMark (v : Word) : (s.setPC v).faultMark = s.faultMark := rfl
@[simp] theorem State.setPC_target (v : Word) (ad : Word) : (s.setPC v).target ad = s.target ad := rfl
@[simp] theorem State.setPC_peek (v : Word) (ad : Word) : (s.setPC v).peek ad = s.peek ad := rfl

/-! ### setFlags -/

@[simp] theorem State.setFlags_a (f : Flags) : (s.setFlags f).a = s.a := rfl
@[simp] theorem State.setFlags_x (f : Flags) : (s.setFlags f).x = s.x := rfl
@[simp] theorem State.setFlags_y (f : Flags) : (s.setFlags f).y = s.y := rfl
@[simp] theorem State.setFlags_sp (f : Flags) : (s.setFlags f).sp = s.sp := rfl
@[simp] theorem State.setFlags_pc (f : Flags) : (s.setFlags f).pc = s.pc := rfl
@[simp] theorem State.setFlags_flags (f : Flags) : (s.setFlags f).flags = f := rfl
@[simp] theorem State.setFlags_cycles (f : Flags) : (s.setFlags f).cycles = s.cycles := rfl
@[simp] theorem State.setFlags_ram (f : Flags) : (s.setFlags f).ram = s.ram := rfl
@[simp] theorem State.setFlags_apu (f : Flags) : (s.setFlags f).apu = s.apu := rfl
@[simp] theorem State.setFlags_cart (f : Flags) : (s.setFlags f).cart = s.cart := rfl
@[simp] theorem State.setFlags_params (f : Flags) : (s.setFlags f).params = s.params := rfl
@[simp] theorem State.setFlags_ppuLog (f : Flags) : (s.setFlags f).ppuLog = s.ppuLog := rfl
@[simp] theorem State.setFlags_faultMark (f : Flags) : (s.setFlags f).faultMark = s.faultMark := rfl
@[simp] theorem State.setFlags_target (f : Flags) (ad : Word) : (s.setFlags f).target ad = s.target ad := rfl
@[simp] theorem State.setFlags_peek (f : Flags) (ad : Word) : (s.setFlags f).peek ad = s.peek ad := rfl

/-! ### setRam -/

@[simp] theorem State.setRam_a (k : Nat) (v : Byte) : (s.setRam k v).a = s.a := rfl
@[simp] theorem State.setRam_x (k : Nat) (v : Byte) : (s.setRam k v).x = s.x := rfl
@[simp] theorem State.setRam_y (k : Nat) (v : Byte) : (s.setRam k v).y = s.y := rfl
@[simp] theorem State.setRam_sp (k : Nat) (v : Byte) : (s.setRam k v).sp = s.sp := rfl
@[simp] theorem State.setRam_pc (k : Nat) (v : Byte) : (s.setRam k v).pc = s.pc := rfl
@[simp] theorem State.setRam_flags (k : Nat) (v : Byte) : (s.setRam k v).flags = s.flags := rfl
@[simp] theorem State.setRam_cycles (k : Nat) (v : Byte) : (s.setRam k v).cycles = s.cycles := rfl
@[simp] theorem State.setRam_ram (k : Nat) (v : Byte) : (s.setRam k v).ram = s.ram.set k v := rfl
@[simp] theorem State.setRam_apu (k : Nat) (v : Byte) : (s.setRam k v).apu = s.apu := rfl
@[simp] theorem State.setRam_cart (k : Nat) (v : Byte) : (s.setRam k v).cart = s.cart := rfl
@[simp] theorem State.setRam_params (k : Nat) (v : Byte) : (s.setRam k v).params = s.params := rfl
@[simp] theorem State.setRam_ppuLog (k : Nat) (v : Byte) : (s.setRam k v).ppuLog = s.ppuLog := rfl
@[simp] theorem State.setRam_faultMark (k : Nat) (v : Byte) : (s.setRam k v).faultMark = s.faultMark := rfl
@[simp] theorem State.setRam_target (k : Nat) (v : Byte) (ad : Word) : (s.setRam k v).target ad = s.target ad := rfl

/-! ### setApu -/

@[simp] theorem State.setApu_a (k : Nat) (v : Byte) : (s.setApu k v).a = s.a := rfl
@[simp] theorem State.setApu_x (k : Nat) (v : Byte) : (s.setApu k v).x = s.x := rfl
@[simp] theorem State.setApu_y (k : Nat) (v : Byte) : (s.setApu k v).y = s.y := rfl
@[simp] theorem State.setApu_sp (k : Nat) (v : Byte) : (s.setApu k v).sp = s.sp := rfl
@[simp] theorem State.setApu_pc (k : Nat) (v : Byte) : (s.setApu k v).pc = s.pc := rfl
@[simp] theorem State.setApu_flags (k : Nat) (v : Byte) : (s.setApu k v).flags = s.flags := rfl
@[simp] theorem State.setApu_cycles (k : Nat) (v : Byte) : (s.setApu k v).cycles = s.cycles := rfl
@[simp] theorem State.setApu_ram (k : Nat) (v : Byte) : (s.setApu k v).ram = s.ram := rfl
@[simp] theorem State.setApu_apu (k : Nat) (v : Byte) : (s.setApu k v).apu = s.apu.set k v := rfl
@[simp] theorem State.setApu_cart (k : Nat) (v : Byte) : (s.setApu k v).cart = s.cart := rfl
@[simp] theorem State.setApu_params (k : Nat) (v : Byte) : (s.setApu k v).params = s.params := rfl
@[simp] theorem State.setApu_ppuLog (k : Nat) (v : Byte) : (s.setApu k v).ppuLog = s.ppuLog := rfl
@[simp] theorem State.setApu_faultMark (k : Nat) (v : Byte) : (s.setApu k v).faultMark = s.faultMark := rfl
@[simp] theorem State.setApu_target (k : Nat) (v : Byte) (ad : Word) : (s.setApu k v).target ad = s.target ad := rfl

/-! ### credit -/

@[simp] theorem State.credit_a (n : Nat) : (s.credit n).a = s.a := rfl
@[simp] theorem State.credit_x (n : Nat) : (s.credit n).x = s.x := rfl
@[simp] theorem State.credit_y (n : Nat) : (s.credit n).y = s.y := rfl
@[simp] theorem State.credit_sp (n : Nat) : (s.credit n).sp = s.sp := rfl
@[simp] theorem State.credit_pc (n : Nat) : (s.credit n).pc = s.pc := rfl
@[simp] theorem State.credit_flags (n : Nat) : (s.credit n).flags = s.flags := rfl
@[simp] theorem State.credit_cycles (n : Nat) : (s.credit n).cycles = s.cycles + BitVec.ofNat 64 n := rfl
@[simp] theorem State.credit_ram (n : Nat) : (s.credit n).ram = s.ram := rfl
@[simp] theorem State.credit_apu (n : Nat) : (s.credit n).apu = s.apu := rfl
@[simp] theorem State.credit_cart (n : Nat) : (s.credit n).cart = s.cart := rfl
@[simp] theorem State.credit_params (n : Nat) : (s.credit n).params = s.params := rfl
@[simp] theorem State.credit_ppuLog (n : Nat) : (s.credit n).ppuLog = s.ppuLog := rfl
@[simp] theorem State.credit_faultMark (n : Nat) : (s.credit n).faultMark = s.faultMark := rfl
@[simp] theorem State.credit_target (n : Nat) (ad : Word) : (s.credit n).target ad = s.target ad := rfl
@[simp] theorem State.credit_peek (n : Nat) (ad : Word) : (s.credit n).peek ad = s.peek ad := rfl

/-! ### logPpu -/

@[simp] theorem State.logPpu_a (e : PpuEvent) : (s.logPpu e).a = s.a := rfl
@[simp] theorem State.logPpu_x (e : PpuEvent) : (s.logPpu e).x = s.x := rfl
@[simp] theorem State.logPpu_y (e : PpuEvent) : (s.logPpu e).y = s.y := rfl
@[simp] theorem State.logPpu_sp (e : PpuEvent) : (s.logPpu e).sp = s.sp := rfl
@[simp] theorem State.logPpu_pc (e : PpuEvent) : (s.logPpu e).pc = s.pc := rfl
@[simp] theorem State.logPpu_flags (e : PpuEvent) : (s.logPpu e).flags = s.flags := rfl
@[simp] theorem State.logPpu_cycles (e : PpuEvent) : (s.logPpu e).cycles = s.cycles := rfl
@[simp] theorem State.logPpu_ram (e : PpuEvent) : (s.logPpu e).ram = s.ram := rfl
@[simp] theorem State.logPpu_apu (e : PpuEvent) : (s.logPpu e).apu = s.apu := rfl
@[simp] theorem State.logPpu_cart (e : PpuEvent) : (s.logPpu e).cart = s.cart := rfl
@[simp] theorem State.logPpu_params (e : PpuEvent) : (s.logPpu e).params = s.params := rfl
@[simp] theorem State.logPpu_ppuLog (e : PpuEvent) : (s.logPpu e).ppuLog = s.ppuLog ++ [e] := rfl
@[simp] theorem State.logPpu_faultMark (e : PpuEvent) : (s.logPpu e).faultMark = s.faultMark := rfl
@[simp] theorem State.logPpu_target (e : PpuEvent) (ad : Word) : (s.logPpu e).target ad = s.target ad := rfl
@[simp] theorem State.logPpu_peek (e : PpuEvent) (ad : Word) : (s.logPpu e).peek ad = s.peek ad := rfl

/-! ### setZN -/

@[simp] theorem State.setZN_a (r : Byte) : (s.setZN r).a = s.a := rfl
@[simp] theorem State.setZN_x (r : Byte) : (s.setZN r).x = s.x := rfl
@[simp] theorem State.setZN_y (r : Byte) : (s.setZN r).y = s.y := rfl
@[simp] theorem State.setZN_sp (r : Byte) : (s.setZN r).sp = s.sp := rfl
@[simp] theorem State.setZN_pc (r : Byte) : (s.setZN r).pc = s.pc := rfl
@[simp] theorem State.setZN_flags (r : Byte) : (s.setZN r).flags = s.flags.setZN r := rfl
@[simp] theorem State.setZN_cycles (r : Byte) : (s.setZN r).cycles = s.cycles := rfl
@[simp] theorem State.setZN_ram (r : Byte) : (s.setZN r).ram = s.ram := rfl
@[simp] theorem State.setZN_apu (r : Byte) : (s.setZN r).apu = s.apu := rfl
@[simp] theorem State.setZN_cart (r : Byte) : (s.setZN r).cart = s.cart := rfl
@[simp] theorem State.setZN_params (r : Byte) : (s.setZN r).params = s.params := rfl
@[simp] theorem State.setZN_ppuLog (r : Byte) : (s.setZN r).ppuLog = s.ppuLog := rfl
@[simp] theorem State.setZN_faultMark (r : Byte) : (s.setZN r).faultMark = s.faultMark := rfl
@[simp] theorem State.setZN_target (r : Byte) (ad : Word) : (s.setZN r).target ad = s.target ad := rfl
@[simp] theorem State.setZN_peek (r : Byte) (ad : Word) : (s.setZN r).peek ad = s.peek ad := rfl

/-! ### setCarry -/

@[simp] theorem State.setCarry_a (c : Bool) : (s.setCarry c).a = s.a := rfl
@[simp] theorem State.setCarry_x (c : Bool) : (s.setCarry c).x = s.x := rfl
@[simp] theorem State.setCarry_y (c : Bool) : (s.setCarry c).y = s.y := rfl
@[simp] theorem State.setCarry_sp (c : Bool) : (s.setCarry c).sp = s.sp := rfl
@[simp] theorem State.setCarry_pc (c : Bool) : (s.setCarry c).pc = s.pc := rfl
@[simp] theorem State.setCarry_flags (c : Bool) : (s.setCarry c).flags = { s.flags with c := c } := rfl
@[simp] theorem State.setCarry_cycles (c : Bool) : (s.setCarry c).cycles = s.cycles := rfl
@[simp] theorem State.setCarry_ram (c : Bool) : (s.setCarry c).ram = s.ram := rfl
@[simp] theorem State.setCarry_apu (c : Bool) : (s.setCarry c).apu = s.apu := rfl
@[simp] theorem State.setCarry_cart (c : Bool) : (s.setCarry c).cart = s.cart := rfl
@[simp] theorem State.setCarry_params (c : Bool) : (s.setCarry c).params = s.params := rfl
@[simp] theorem State.setCarry_ppuLog (c : Bool) : (s.setCarry c).ppuLog = s.ppuLog := rfl
@[simp] theorem State.setCarry_faultMark (c : Bool) : (s.setCarry c).faultMark = s.faultMark := rfl
@[simp] theorem State.setCarry_target (c : Bool) (ad : Word) : (s.setCarry c).target ad = s.target ad := rfl
@[simp] theorem State.setCarry_peek (c : Bool) (ad : Word) : (s.setCarry c).peek ad = s.peek ad := rfl

/-! ### pastOperand -/

@[simp] theorem State.pastOperand_a (i : Instr) : (s.pastOperand i).a = s.a := rfl
@[simp] theorem State.pastOperand_x (i : Instr) : (s.pastOperand i).x = s.x := rfl
@[simp] theorem State.pastOperand_y (i : Instr) : (s.pastOperand i).y = s.y := rfl
@[simp] theorem State.pastOperand_sp (i : Instr) : (s.pastOperand i).sp = s.sp := rfl
@[simp] theorem State.pastOperand_pc (i : Instr) : (s.pastOperand i).pc = s.pc + BitVec.ofNat 16 i.length := rfl
@[simp] theorem State.pastOperand_flags (i : Instr) : (s.pastOperand i).flags = s.flags := rfl
@[simp] theorem State.pastOperand_cycles (i : Instr) : (s.pastOperand i).cycles = s.cycles := rfl
@[simp] theorem State.pastOperand_ram (i : Instr) : (s.pastOperand i).ram = s.ram := rfl
@[simp] theorem State.pastOperand_apu (i : Instr) : (s.pastOperand i).apu = s.apu := rfl
@[simp] theorem State.pastOperand_cart (i : Instr) : (s.pastOperand i).cart = s.cart := rfl
@[simp] theorem State.pastOperand_params (i : Instr) : (s.pastOperand i).params = s.params := rfl
@[simp] theorem State.pastOperand_ppuLog (i : Instr) : (s.pastOperand i).ppuLog = s.ppuLog := rfl
@[simp] theorem State.pastOperand_faultMark (i : Instr) : (s.pastOperand i).faultMark = s.faultMark := rfl
@[simp] theorem State.pastOperand_target (i : Instr) (ad : Word) : (s.pastOperand i).target ad = s.target ad := rfl
@[simp] theorem State.pastOperand_peek (i : Instr) (ad : Word) : (s.pastOperand i).peek ad = s.peek ad := rfl

/-! ### withLog -/

@[simp] theorem State.withLog_a (l : List PpuEvent) : (s.withLog l).a = s.a := rfl
@[simp] theorem State.withLog_x (l : List PpuEvent) : (s.withLog l).x = s.x := rfl
@[simp] theorem State.withLog_y (l : List PpuEvent) : (s.withLog l).y = s.y := rfl
@[simp] theorem State.withLog_sp (l : List PpuEvent) : (s.withLog l).sp = s.sp := rfl
@[simp] theorem State.withLog_pc (l : List PpuEvent) : (s.withLog l).pc = s.pc := rfl
@[simp] theorem State.withLog_flags (l : List PpuEvent) : (s.withLog l).flags = s.flags := rfl
@[simp] theorem State.withLog_cycles (l : List PpuEvent) : (s.withLog l).cycles = s.cycles := rfl
@[simp] theorem State.withLog_ram (l : List PpuEvent) : (s.withLog l).ram = s.ram := rfl
@[simp] theorem State.withLog_apu (l : List PpuEvent) : (s.withLog l).apu = s.apu := rfl
@[simp] theorem State.withLog_cart (l : List PpuEvent) : (s.withLog l).cart = s.cart := rfl
@[simp] theorem State.withLog_params (l : List PpuEvent) : (s.withLog l).params = s.params := rfl
@[simp] theorem State.withLog_ppuLog (l : List PpuEvent) : (s.withLog l).ppuLog = l := rfl
@[simp] theorem State.withLog_faultMark (l : List PpuEvent) : (s.withLog l).faultMark = s.faultMark := rfl
@[simp] theorem State.withLog_target (l : List PpuEvent) (ad : Word) : (s.withLog l).target ad = s.target ad := rfl
@[simp] theorem State.withLog_peek (l : List PpuEvent) (ad : Word) : (s.withLog l).peek ad = s.peek ad := rfl

/-! ### Flags -/

@[simp] theorem Flags.setZN_c (f : Flags) (r : Byte) : (f.setZN r).c = f.c := rfl
@[simp] theorem Flags.setZN_z (f : Flags) (r : Byte) : (f.setZN r).z = (r == 0) := rfl
@[simp] theorem Flags.setZN_i (f : Flags) (r : Byte) : (f.setZN r).i = f.i := rfl
@[simp] theorem Flags.setZN_d (f : Flags) (r : Byte) : (f.setZN r).d = f.d := rfl
@[simp] theorem Flags.setZN_v (f : Flags) (r : Byte) : (f.setZN r).v = f.v := rfl
@[simp] theorem Flags.setZN_n (f : Flags) (r : Byte) : (f.setZN r).n = r.msb := rfl

end Sys2Proof.Machine
end

