-- ==== Sys2Proof/Laws/Memory.lean ====
section
/-! SUPPORT. The laws of a memory: read after write, other cells untouched, and the canonical form kept by every operation. -/

namespace Sys2Proof.Machine

@[simp] theorem Memory.get_nil (k : Nat) : Memory.get [] k = unlisted := rfl

theorem Memory.get_cons (c : Host.Cell) (m : Memory) (k : Nat) :
    Memory.get (c :: m) k = if c.1 = k then c.2 else Memory.get m k := rfl

theorem Memory.get_erase (m : Memory) (k j : Nat) :
    Memory.get (m.erase k) j = if j = k then unlisted else m.get j := by
  induction m with
  | nil => simp [Memory.erase]
  | cons c m ih =>
    simp only [Memory.erase] at ih
    by_cases hc : c.1 = k
    · simp [Memory.erase, hc, Memory.get_cons]
      grind
    · simp [Memory.erase, hc, Memory.get_cons]
      grind

theorem Memory.get_insert (m : Memory) (k j : Nat) (v : Byte) :
    Memory.get (m.insert k v) j = if j = k then v else m.get j := by
  induction m with
  | nil => simp [Memory.insert, Memory.get_cons, eq_comm]
  | cons c m ih =>
    unfold Memory.insert
    split
    · simp [Memory.get_cons, eq_comm]
    · split <;> simp only [Memory.get_cons, ih] <;> grind

/-- Read after write, and every other cell as before. -/
theorem Memory.get_set (m : Memory) (k j : Nat) (v : Byte) :
    Memory.get (m.set k v) j = if j = k then v else m.get j := by
  unfold Memory.set
  split
  · next h => simp [Memory.get_erase, h]
  · exact Memory.get_insert m k j v

@[simp] theorem Memory.get_set_same (m : Memory) (k : Nat) (v : Byte) : Memory.get (m.set k v) k = v := by
  simp [Memory.get_set]

theorem Memory.get_set_other (m : Memory) (k j : Nat) (v : Byte) (h : j ≠ k) :
    Memory.get (m.set k v) j = m.get j := by
  simp [Memory.get_set, h]

theorem Memory.mem_insert (m : Memory) (k : Nat) (v : Byte) (c : Host.Cell) (h : c ∈ m.insert k v) :
    c = (k, v) ∨ c ∈ m := by
  induction m with
  | nil => simpa [Memory.insert] using h
  | cons d m ih =>
    unfold Memory.insert at h
    grind

theorem Memory.insert_wf (m : Memory) (k : Nat) (v : Byte) (hv : v ≠ unlisted) (h : m.wf) : (m.insert k v).wf := by
  induction m with
  | nil => simpa [Memory.insert, Memory.wf] using hv
  | cons d m ih =>
    obtain ⟨hp, hz⟩ := h
    have hp' := List.pairwise_cons.mp hp
    have ih' := ih ⟨hp'.2, fun c hc => hz c (List.mem_cons_of_mem _ hc)⟩
    unfold Memory.insert
    split
    · next hk =>
      refine ⟨List.pairwise_cons.mpr ⟨?_, hp⟩, ?_⟩
      · intro c hc
        rcases List.mem_cons.mp hc with rfl | hc
        · exact hk
        · exact Nat.lt_trans hk (hp'.1 c hc)
      · intro c hc
        rcases List.mem_cons.mp hc with rfl | hc
        · exact hv
        · exact hz c hc
    · split
      · next hk =>
        refine ⟨List.pairwise_cons.mpr ⟨fun c hc => hk ▸ hp'.1 c hc, hp'.2⟩, ?_⟩
        intro c hc
        rcases List.mem_cons.mp hc with rfl | hc
        · exact hv
        · exact hz c (List.mem_cons_of_mem _ hc)
      · refine ⟨List.pairwise_cons.mpr ⟨?_, ih'.1⟩, ?_⟩
        · intro c hc
          rcases Memory.mem_insert m k v c hc with rfl | hc
          · simp only; omega
          · exact hp'.1 c hc
        · intro c hc
          rcases List.mem_cons.mp hc with rfl | hc
          · exact hz _ (List.mem_cons_self ..)
          · exact ih'.2 c hc

theorem Memory.erase_wf (m : Memory) (k : Nat) (h : m.wf) : (m.erase k).wf :=
  ⟨h.1.filter _, fun c hc => h.2 c (List.mem_of_mem_filter hc)⟩

/-- A write keeps the canonical form. -/
theorem Memory.set_wf (m : Memory) (k : Nat) (v : Byte) (h : m.wf) : (m.set k v).wf := by
  unfold Memory.set
  split
  · exact m.erase_wf k h
  · next hv => exact m.insert_wf k v hv h

/-- A write inside the store lists only cells the store has. -/
theorem Memory.set_below (m : Memory) (size k : Nat) (v : Byte) (hk : k < size) (h : m.below size) :
    (m.set k v).below size := by
  intro c hc
  unfold Memory.set at hc
  split at hc
  · exact h c (List.mem_of_mem_filter hc)
  · rcases Memory.mem_insert m k v c hc with rfl | hc
    · exact hk
    · exact h c hc

end Sys2Proof.Machine
end

