-- ==== Sys2Proof/Laws/Bus.lean ====
section
/-! SUPPORT. What bus accesses can do: sequencing, the index ranges of the decoder, inversion of reads and writes, when they
complete, and their frames. -/

namespace Sys2Proof.Machine

/-! ### Sequencing -/

@[simp] theorem andThen_ok {α β : Type} (v : α) (s : State) (k : α → State → Bus β) :
    andThen (.ok (v, s)) k = k v s := rfl

@[simp] theorem andThen_error {α β : Type} (e : Fault) (k : α → State → Bus β) :
    andThen (.error e) k = .error e := rfl

/-- A raised fault holds the state it was raised in (R262 a, b). -/
@[simp] theorem raise_eq {α : Type} (k : FaultKind) (s : State) :
    (raise k s : Bus α) = .error { kind := k, left := s } := rfl

@[simp] theorem fails_ok {α : Type} (v : α × State) (k : FaultKind) : ¬Fails (.ok v) k := by
  rintro ⟨_, h⟩; cases h

@[simp] theorem fails_error {α : Type} (e : Fault) (k : FaultKind) : Fails (.error e : Bus α) k ↔ e.kind = k := by
  constructor
  · rintro ⟨_, h⟩; cases h; rfl
  · rintro rfl; exact ⟨_, rfl⟩

/-- A sequence completes exactly when both accesses do. -/
theorem andThen_eq_ok {α β : Type} {r : Bus α} {k : α → State → Bus β} {b : β} {t : State} :
    andThen r k = .ok (b, t) ↔ ∃ v s, r = .ok (v, s) ∧ k v s = .ok (b, t) := by
  match r with
  | .ok (v, s) =>
    simp only [andThen_ok, Except.ok.injEq, Prod.mk.injEq]
    constructor
    · intro h; exact ⟨v, s, ⟨rfl, rfl⟩, h⟩
    · rintro ⟨v', s', ⟨rfl, rfl⟩, h⟩; exact h
  | .error e => simp

/-- A sequence faults exactly when the first access does, or the second does after it. -/
theorem andThen_eq_error {α β : Type} {r : Bus α} {k : α → State → Bus β} {e : Fault} :
    andThen r k = .error e ↔ r = .error e ∨ ∃ v s, r = .ok (v, s) ∧ k v s = .error e := by
  match r with
  | .ok (v, s) =>
    simp only [andThen_ok, reduceCtorEq, false_or, Except.ok.injEq, Prod.mk.injEq]
    constructor
    · intro h; exact ⟨v, s, ⟨rfl, rfl⟩, h⟩
    · rintro ⟨v', s', ⟨rfl, rfl⟩, h⟩; exact h
  | .error e' => simp

/-- A sequence fails exactly when the first access does, or the second does after it (R262 d). -/
theorem andThen_fails {α β : Type} {r : Bus α} {f : α → State → Bus β} {k : FaultKind} :
    Fails (andThen r f) k ↔ Fails r k ∨ ∃ v s, r = .ok (v, s) ∧ Fails (f v s) k := by
  match r with
  | .ok (v, s) =>
    simp only [andThen_ok, fails_ok, false_or, Except.ok.injEq, Prod.mk.injEq]
    constructor
    · intro h; exact ⟨v, s, ⟨rfl, rfl⟩, h⟩
    · rintro ⟨v', s', ⟨rfl, rfl⟩, h⟩; exact h
  | .error e => simp

/-! ### The decoder -/

/-- A RAM index is below RAM_SIZE (R33, R43). -/
theorem busDecode_ram_lt {b : Nat} {a : Word} {k : Nat} (h : busDecode b a = .ram k) : k < Config.ramSize := by
  unfold busDecode at h
  repeat' split at h
  all_goals simp only [BusTarget.ram.injEq, reduceCtorEq] at h
  subst h
  rw [BitVec.toNat_and]
  exact Nat.lt_of_le_of_lt Nat.and_le_right (by decide)

/-- An APU index is below APU_REG_COUNT (R34, R45). -/
theorem busDecode_apu_lt {b : Nat} {a : Word} {k : Nat} (h : busDecode b a = .apu k) : k < Config.apuSize := by
  unfold busDecode at h
  repeat' split at h
  all_goals simp only [BusTarget.apu.injEq, reduceCtorEq] at h
  subst h
  next h2 h3 =>
    have := BitVec.le_def.mp h3
    simp only [Config.apuSize]
    simp at this
    omega

/-- The decoder by ranges of numbers (R42). -/
theorem busDecode_eq (b : Nat) (a : Word) : busDecode b a =
    if a.toNat ≤ 0x1FFF then .ram (a.toNat % 0x800)
    else if a.toNat ≤ 0x3FFF then .ppu (BitVec.ofNat 3 a.toNat)
    else if a.toNat ≤ 0x4017 then .apu (a.toNat - 0x4000)
    else if a.toNat ≤ 0x7FFF then .unmapped
    else .prg (if a.toNat ≤ 0xBFFF then a.toNat % 0x8000 else a.toNat - 0xC000 + b) := by
  have le : ∀ n < 65536, a ≤ BitVec.ofNat 16 n ↔ a.toNat ≤ n := by
    intro n hn
    rw [BitVec.le_def, BitVec.toNat_ofNat, Nat.mod_eq_of_lt hn]
  have h1 : (a &&& 0x07FF#16).toNat = a.toNat % 0x800 := by
    rw [BitVec.toNat_and]; exact Nat.and_two_pow_sub_one_eq_mod _ 11
  have h2 : (a &&& 0x7FFF#16).toNat = a.toNat % 0x8000 := by
    rw [BitVec.toNat_and]; exact Nat.and_two_pow_sub_one_eq_mod _ 15
  have h3 : a.setWidth 3 = BitVec.ofNat 3 a.toNat := by
    apply BitVec.eq_of_toNat_eq; simp
  unfold busDecode
  rw [h1, h2, h3]
  simp only [le 0x1FFF (by decide), le 0x3FFF (by decide), le 0x4017 (by decide), le 0x7FFF (by decide),
    le 0xBFFF (by decide)]
  repeat' split
  all_goals rfl

/-! ### Reads -/

/-- What a read that completes can do: return the peeked byte and change nothing, or be one fresh PPU event. -/
theorem memRead_cases {a : Word} {s t : State} {v : Byte} (h : memRead a s = .ok (v, t)) :
    (s.peek a = some v ∧ t = s) ∨
    (∃ r, s.target a = .ppu r ∧ v = Config.ppuOracle s.ppuLog s.cycles r ∧ t = s.logPpu (.read s.cycles r v)) := by
  cases hT : s.target a with
  | ppu r =>
    simp only [memRead, hT, ppuRead, Except.ok.injEq, Prod.mk.injEq] at h
    obtain ⟨rfl, rfl⟩ := h
    exact .inr ⟨r, rfl, rfl, rfl⟩
  | unmapped => simp [memRead, hT] at h
  | ram k => simp only [memRead, hT, Except.ok.injEq, Prod.mk.injEq] at h; exact .inl ⟨by simp [State.peek, hT, h.1], h.2.symm⟩
  | apu k => simp only [memRead, hT, Except.ok.injEq, Prod.mk.injEq] at h; exact .inl ⟨by simp [State.peek, hT, h.1], h.2.symm⟩
  | prg off =>
    cases hp : readPRG s.cart off with
    | none => simp [memRead, hT, hp] at h
    | some w => simp only [memRead, hT, hp, Except.ok.injEq, Prod.mk.injEq] at h; exact .inl ⟨by simp [State.peek, hT, hp, h.1], h.2.symm⟩

/-- A read changes at most the record of PPU accesses (R56). -/
theorem memRead_state {a : Word} {s t : State} {v : Byte} (h : memRead a s = .ok (v, t)) :
    t = s.withLog t.ppuLog := by
  rcases memRead_cases h with ⟨-, rfl⟩ | ⟨r, -, -, rfl⟩ <;> rfl

/-- A peeked byte is what a read returns, with no side effect (R56). -/
theorem memRead_of_peek {a : Word} {s : State} {v : Byte} (h : s.peek a = some v) : memRead a s = .ok (v, s) := by
  unfold State.peek at h
  unfold memRead
  split at h <;> simp_all

/-- A read completes exactly where the address is readable. -/
theorem memRead_isOk (a : Word) (s : State) : (∃ v t, memRead a s = .ok (v, t)) ↔ readable s a = true := by
  cases hT : s.target a with
  | prg off => cases hp : readPRG s.cart off <;> simp [memRead, readable, hT, hp]
  | _ => simp [memRead, readable, hT, ppuRead]

/-- A read that completes does not look at PC. -/
theorem memRead_setPC {a : Word} {s t : State} {v : Byte} (w : Word) (h : memRead a s = .ok (v, t)) :
    memRead a (s.setPC w) = .ok (v, t.setPC w) := by
  rcases memRead_cases h with ⟨hp, rfl⟩ | ⟨r, hr, rfl, rfl⟩
  · exact memRead_of_peek hp
  · simp only [memRead, State.setPC_target, hr]; rfl

/-- A read fails only as R48 and R49 say. -/
theorem memRead_fails {a : Word} {s : State} {k : FaultKind} : Fails (memRead a s) k ↔
    (s.target a = .unmapped ∧ k = .unmappedAddress a .read) ∨
    ∃ off, s.target a = .prg off ∧ readPRG s.cart off = none ∧ k = .configError off := by
  cases hT : s.target a with
  | prg off => cases hp : readPRG s.cart off <;> simp [memRead, hT, hp, eq_comm]
  | _ => simp [memRead, hT, eq_comm]

/-- Whether a read fails does not depend on PC. -/
theorem memRead_setPC_fails {a : Word} {s : State} {w : Word} {k : FaultKind} :
    Fails (memRead a (s.setPC w)) k ↔ Fails (memRead a s) k := by simp [memRead_fails]

/-- A read that faults leaves the state it found (R262 a). -/
theorem memRead_error {a : Word} {s : State} {e : Fault} (h : memRead a s = .error e) : e.left = s := by
  cases hT : s.target a with
  | prg off => cases hp : readPRG s.cart off <;> simp [memRead, hT, hp] at h; rw [← h]
  | unmapped => simp [memRead, hT] at h; rw [← h]
  | _ => simp [memRead, hT] at h

/-! ### Writes -/

/-- What a write that completes can do. -/
theorem memWrite_cases {a : Word} {v : Byte} {s t : State} {u : Unit} (h : memWrite a v s = .ok (u, t)) :
    (∃ k, s.target a = .ram k ∧ t = s.setRam k v) ∨
    (∃ k, s.target a = .apu k ∧ t = s.setApu k v) ∨
    (∃ r, s.target a = .ppu r ∧ t = s.logPpu (.write s.cycles r v)) ∨
    (∃ off, s.target a = .prg off ∧ s.params.romWritePolicy = .ignore ∧ t = s) := by
  unfold memWrite at h
  split at h
  · next k hk => exact .inl ⟨k, hk, by simp_all⟩
  · next r hr => exact .inr (.inr (.inl ⟨r, hr, by simp_all⟩))
  · next k hk => exact .inr (.inl ⟨k, hk, by simp_all⟩)
  · cases h
  · next off ho =>
    unfold romWrite at h
    split at h
    · cases h
    · next hp => exact .inr (.inr (.inr ⟨off, ho, hp, by simp_all⟩))

/-- A write changes at most RAM, the APU array and the record of PPU accesses. -/
theorem memWrite_state {a : Word} {v : Byte} {s t : State} {u : Unit} (h : memWrite a v s = .ok (u, t)) :
    t = { s with ram := t.ram, apu := t.apu, ppuLog := t.ppuLog } := by
  rcases memWrite_cases h with ⟨k, -, rfl⟩ | ⟨k, -, rfl⟩ | ⟨r, -, rfl⟩ | ⟨o, -, -, rfl⟩ <;> rfl

/-- A write completes exactly where the address is writable. -/
theorem memWrite_isOk (a : Word) (v : Byte) (s : State) : (∃ t, memWrite a v s = .ok ((), t)) ↔ writable s a = true := by
  cases hT : s.target a with
  | prg off => cases hp : s.params.romWritePolicy <;> simp [memWrite, writable, romWrite, hT, hp]
  | _ => simp [memWrite, writable, hT]

/-- A write fails only as R49 and R50 say. -/
theorem memWrite_fails {a : Word} {v : Byte} {s : State} {k : FaultKind} : Fails (memWrite a v s) k ↔
    (s.target a = .unmapped ∧ k = .unmappedAddress a .write) ∨
    ∃ off, s.target a = .prg off ∧ s.params.romWritePolicy = .fault ∧ k = .romWrite a v := by
  cases hT : s.target a with
  | prg off => cases hp : s.params.romWritePolicy <;> simp [memWrite, romWrite, hT, hp, eq_comm]
  | _ => simp [memWrite, hT, eq_comm]

/-- A write that faults leaves the state it found (R262 a). -/
theorem memWrite_error {a : Word} {v : Byte} {s : State} {e : Fault} (h : memWrite a v s = .error e) : e.left = s := by
  cases hT : s.target a with
  | prg off => cases hp : s.params.romWritePolicy <;> simp [memWrite, romWrite, hT, hp] at h; rw [← h]
  | unmapped => simp [memWrite, hT] at h; rw [← h]
  | _ => simp [memWrite, hT] at h

/-- Every address that reaches another cell reads as before. -/
theorem memWrite_frame {a : Word} {v : Byte} {s t : State} {u : Unit} (h : memWrite a v s = .ok (u, t)) :
    SameMemoryBut [a] s t := by
  intro b hb
  have hb' := hb a (List.mem_singleton.mpr rfl)
  rcases memWrite_cases h with ⟨k, hk, rfl⟩ | ⟨k, hk, rfl⟩ | ⟨r, -, rfl⟩ | ⟨o, -, -, rfl⟩
  · simp only [State.peek, State.setRam_target, State.setRam_ram, State.setRam_apu, State.setRam_cart]
    split <;> try rfl
    next j hj =>
      rw [Memory.get_set_other]
      rintro rfl
      exact hb' (hj.trans hk.symm)
  · simp only [State.peek, State.setApu_target, State.setApu_ram, State.setApu_apu, State.setApu_cart]
    split <;> try rfl
    next j hj =>
      rw [Memory.get_set_other]
      rintro rfl
      exact hb' (hj.trans hk.symm)
  · rfl
  · rfl

/-- Where a RAM or APU cell is written, the byte reads back. -/
theorem memWrite_peek {a : Word} {v : Byte} {s t : State} {u : Unit} (h : memWrite a v s = .ok (u, t))
    (hc : (∃ k, s.target a = .ram k) ∨ ∃ k, s.target a = .apu k) : t.peek a = some v := by
  rcases memWrite_cases h with ⟨k, hk, rfl⟩ | ⟨k, hk, rfl⟩ | ⟨r, hr, -⟩ | ⟨o, ho, -, -⟩
  · simp [State.peek, hk]
  · simp [State.peek, hk]
  · simp [hr] at hc
  · simp [ho] at hc

/-! ### The invariant under accesses -/

/-- The invariant looks only at the stores. -/
theorem State.Inv.congr {s t : State} (h : s.Inv) (hr : t.ram = s.ram) (ha : t.apu = s.apu) (hc : t.cart = s.cart) :
    t.Inv :=
  ⟨hr ▸ h.ram_wf, hr ▸ h.ram_below, ha ▸ h.apu_wf, ha ▸ h.apu_below, hc ▸ h.cart_wf⟩

theorem memRead_inv {a : Word} {s t : State} {v : Byte} (h : memRead a s = .ok (v, t)) (hi : s.Inv) : t.Inv := by
  have ht := memRead_state h
  exact hi.congr (by rw [ht]; rfl) (by rw [ht]; rfl) (by rw [ht]; rfl)

theorem memWrite_inv {a : Word} {v : Byte} {s t : State} {u : Unit} (h : memWrite a v s = .ok (u, t)) (hi : s.Inv) :
    t.Inv := by
  rcases memWrite_cases h with ⟨k, hk, rfl⟩ | ⟨k, hk, rfl⟩ | ⟨r, -, rfl⟩ | ⟨o, -, -, rfl⟩
  · exact ⟨Memory.set_wf _ _ _ hi.ram_wf, Memory.set_below _ _ _ _ (busDecode_ram_lt hk) hi.ram_below, hi.apu_wf,
      hi.apu_below, hi.cart_wf⟩
  · exact ⟨hi.ram_wf, hi.ram_below, Memory.set_wf _ _ _ hi.apu_wf,
      Memory.set_below _ _ _ _ (busDecode_apu_lt hk) hi.apu_below, hi.cart_wf⟩
  · exact hi.congr rfl rfl rfl
  · exact hi

end Sys2Proof.Machine
end

