-- ==== Sys2Proof/Laws/Operands.lean ====
section
/-! SUPPORT. The stack as RAM, the pointers in page zero, what resolving can do, and the one inversion lemma of the common step. -/

namespace Sys2Proof.Machine

/-! ### Page zero and page one are RAM -/

/-- A zero-page address reaches the RAM cell of its number (R40, R43). -/
theorem target_zext16 (s : State) (p : Byte) : s.target (zext16 p) = .ram p.toNat := by
  have h : p.toNat < 256 := p.isLt
  have h1 : zext16 p ≤ 0x1FFF#16 := by
    rw [BitVec.le_def]; simp [zext16]; omega
  have h2 : (zext16 p &&& 0x07FF#16).toNat = p.toNat := by
    simp only [zext16, BitVec.toNat_and, BitVec.toNat_setWidth, BitVec.toNat_ofNat]
    rw [show (0x07FF % 2 ^ 16 : Nat) = 2 ^ 11 - 1 from rfl, Nat.and_two_pow_sub_one_eq_mod]
    omega
  simp [State.target, busDecode, h1, h2]

theorem stackAddr_toNat (p : Byte) : (stackAddr p).toNat = 0x100 + p.toNat := by
  have h : p.toNat < 256 := p.isLt
  simp [stackAddr, zext16, BitVec.toNat_add]; omega

/-- A stack address reaches RAM cell 0x100 + SP (R57, R60). -/
theorem target_stackAddr (s : State) (p : Byte) : s.target (stackAddr p) = .ram (0x100 + p.toNat) := by
  have h : p.toNat < 256 := p.isLt
  have h1 : stackAddr p ≤ 0x1FFF#16 := by
    rw [BitVec.le_def, stackAddr_toNat]; simp; omega
  have h2 : (stackAddr p &&& 0x07FF#16).toNat = 0x100 + p.toNat := by
    rw [BitVec.toNat_and, stackAddr_toNat, BitVec.toNat_ofNat,
      show (0x07FF % 2 ^ 16 : Nat) = 2 ^ 11 - 1 from rfl, Nat.and_two_pow_sub_one_eq_mod]
    omega
  simp [State.target, busDecode, h1, h2]

/-- A push never faults (R60). -/
theorem push_eq (v : Byte) (s : State) :
    push v s = .ok ((), (s.setRam (0x100 + s.sp.toNat) v).setSP (s.sp - 1)) := by
  simp [push, memWrite, target_stackAddr]

/-- A pull never faults (R60). -/
theorem pull_eq (s : State) : pull s = .ok (s.ram.get (0x100 + (s.sp + 1).toNat), s.setSP (s.sp + 1)) := by
  simp [pull, memRead, target_stackAddr]

theorem push16_eq (w : Word) (s : State) :
    push16 w s = .ok ((), ((((s.setRam (0x100 + s.sp.toNat) (hiByte w)).setSP (s.sp - 1)).setRam
      (0x100 + (s.sp - 1).toNat) (loByte w)).setSP (s.sp - 1 - 1))) := by
  simp [push16, push_eq]

theorem pull16_eq (s : State) :
    pull16 s = .ok (cat (s.ram.get (0x100 + (s.sp + 1 + 1).toNat)) (s.ram.get (0x100 + (s.sp + 1).toNat)),
      (s.setSP (s.sp + 1)).setSP (s.sp + 1 + 1)) := by
  simp [pull16, pull_eq]

/-- A pointer in page zero is read from RAM and never faults (R52, R105). -/
theorem read16ZP_eq (p : Byte) (s : State) :
    read16ZP p s = .ok (cat (s.ram.get (p + 1).toNat) (s.ram.get p.toNat), s) := by
  simp [read16ZP, readPair, memRead, target_zext16]

/-! ### Reads of pairs and resolving -/

theorem State.withLog_withLog (s : State) (l l' : List PpuEvent) : (s.withLog l).withLog l' = s.withLog l' := rfl

theorem readPair_state {lo hi : Word} {s t : State} {w : Word} (h : readPair lo hi s = .ok (w, t)) :
    t = s.withLog t.ppuLog := by
  simp only [readPair, andThen_eq_ok, Except.ok.injEq, Prod.mk.injEq] at h
  obtain ⟨l, s1, h1, h', s2, h2, -, rfl⟩ := h
  rw [memRead_state h2, memRead_state h1]; rfl

/-- A read of a pair that completes does not look at PC. -/
theorem readPair_setPC {lo hi : Word} {s t : State} {v : Word} (w : Word) (h : readPair lo hi s = .ok (v, t)) :
    readPair lo hi (s.setPC w) = .ok (v, t.setPC w) := by
  simp only [readPair, andThen_eq_ok, Except.ok.injEq, Prod.mk.injEq] at h
  obtain ⟨l, s1, h1, u, s2, h2, rfl, rfl⟩ := h
  simp only [readPair, memRead_setPC w h1, andThen_ok, memRead_setPC w h2]

/-- A read of a pair fails as its first read does, or as its second does after it (R55). -/
theorem readPair_fails {lo hi : Word} {s : State} {k : FaultKind} : Fails (readPair lo hi s) k ↔
    Fails (memRead lo s) k ∨ ∃ l s1, memRead lo s = .ok (l, s1) ∧ Fails (memRead hi s1) k := by
  simp only [readPair, andThen_fails, fails_ok, and_false, exists_false, or_false]

/-- Whether a read of a pair fails does not depend on PC. -/
theorem readPair_setPC_fails {lo hi : Word} {s : State} {w : Word} {k : FaultKind} (h : Fails (readPair lo hi s) k) :
    Fails (readPair lo hi (s.setPC w)) k := by
  rw [readPair_fails] at h ⊢
  rcases h with h | ⟨l, s1, h1, h⟩
  · exact .inl (memRead_setPC_fails.mpr h)
  · exact .inr ⟨l, _, memRead_setPC w h1, memRead_setPC_fails.mpr h⟩

/-- Resolving changes at most the record of PPU accesses (R90, R105). -/
theorem resolve_state {o : Operand} {s t : State} {r : Resolved} (h : resolve o s = .ok (r, t)) :
    t = s.withLog t.ppuLog := by
  cases o <;> simp only [resolve, andThen_eq_ok, Except.ok.injEq, Prod.mk.injEq] at h
  case ind a => obtain ⟨w, s1, h1, -, rfl⟩ := h; exact readPair_state h1
  case indx nn => obtain ⟨w, s1, h1, -, rfl⟩ := h; exact readPair_state h1
  case indy nn => obtain ⟨w, s1, h1, -, rfl⟩ := h; exact readPair_state h1
  all_goals obtain ⟨-, rfl⟩ := h; rfl

/-- Resolving fails only in a pointer read (R105). -/
theorem resolve_fails {o : Operand} {s : State} {k : FaultKind} (h : Fails (resolve o s) k) :
    ∃ a s1, Fails (memRead a s1) k := by
  cases o <;> simp only [resolve, andThen_fails, fails_ok, and_false, exists_false, or_false] at h
  all_goals
    simp only [read16Bug, read16ZP, readPair_fails] at h
    rcases h with h | ⟨_, _, _, h⟩ <;> exact ⟨_, _, h⟩

/-! ### The common step -/

/-- Everything a step that completes does after the fetch (R110, R114 to R117). -/
theorem execute_eq_next {i : Instr} {body : Body} {s t : State} :
    execute i body s = .next t ↔ ∃ r s1 extra s2, resolve i.row.operand (s.pastOperand i) = .ok (r, s1) ∧
      body r.target s1 = .ok (extra, s2) ∧ t = s2.credit (Instr.cost i r.crossed extra) := by
  have key : execute i body s = .next t ↔ runBody i body s = .ok ((), t) := by
    unfold execute finish
    rcases runBody i body s with e | ⟨u, s'⟩ <;> simp
  rw [key]
  simp only [runBody, andThen_eq_ok, Except.ok.injEq, Prod.mk.injEq, true_and]
  constructor
  · rintro ⟨r, s1, h1, n, s2, h2, rfl⟩; exact ⟨r, s1, n, s2, h1, h2, rfl⟩
  · rintro ⟨r, s1, n, s2, h1, h2, rfl⟩; exact ⟨r, s1, h1, n, s2, h2, rfl⟩

/-- A step faults in its pointer reads or in its body, with that fault (R262 d). -/
theorem execute_eq_fault {i : Instr} {body : Body} {s : State} {e : Fault} :
    execute i body s = .fault e ↔ resolve i.row.operand (s.pastOperand i) = .error e ∨
      ∃ r s1, resolve i.row.operand (s.pastOperand i) = .ok (r, s1) ∧ body r.target s1 = .error e := by
  have key : execute i body s = .fault e ↔ runBody i body s = .error e := by
    unfold execute finish
    rcases runBody i body s with e' | ⟨u, s'⟩ <;> simp
  rw [key]
  simp only [runBody, andThen_eq_error, reduceCtorEq, and_false, exists_false, or_false]

/-- The same by kind alone. -/
theorem execute_stops {i : Instr} {body : Body} {s : State} {k : FaultKind} :
    Stops (execute i body s) k ↔ Fails (resolve i.row.operand (s.pastOperand i)) k ∨
      ∃ r s1, resolve i.row.operand (s.pastOperand i) = .ok (r, s1) ∧ Fails (body r.target s1) k := by
  simp only [Stops, Fails, execute_eq_fault, exists_or]
  refine or_congr_right ⟨?_, ?_⟩
  · rintro ⟨l, r, s1, h1, h2⟩; exact ⟨r, s1, h1, l, h2⟩
  · rintro ⟨r, s1, h1, l, h2⟩; exact ⟨l, r, s1, h1, h2⟩

/-- A step never refuses. -/
theorem execute_ne_refused (i : Instr) (body : Body) (s : State) (r : Refusal) : execute i body s ≠ .refused r := by
  unfold execute finish
  split <;> simp

end Sys2Proof.Machine
end

