-- ==== Sys2Proof/Laws/Exec.lean ====
section
/-! SUPPORT. exec, arm by arm, is the common step with the body of the row's mnemonic and access class; so a claim over all
instructions splits over mnemonics and classes, not over the 256 rows. -/

namespace Sys2Proof.Machine

/-- The body a mnemonic has in an access class. -/
def bodyOf (m : Mnemonic) (access : AccessClass) (bad : FaultKind) : Body :=
  match m with
  | .ADC => readBody bad adcEffect
  | .AND => readBody bad andEffect
  | .ASL => if access = .register then registerBody bad (shiftA shiftAsl)
    else rmwBody bad (shiftResult shiftAsl) (shiftFlags shiftAsl)
  | .BCC => branchBody bad bccTaken
  | .BCS => branchBody bad bcsTaken
  | .BEQ => branchBody bad beqTaken
  | .BIT => readBody bad bitEffect
  | .BMI => branchBody bad bmiTaken
  | .BNE => branchBody bad bneTaken
  | .BPL => branchBody bad bplTaken
  | .BRK => accessBody bad brkEffect
  | .BVC => branchBody bad bvcTaken
  | .BVS => branchBody bad bvsTaken
  | .CLC => impliedBody bad clcEffect
  | .CLD => impliedBody bad cldEffect
  | .CLI => impliedBody bad cliEffect
  | .CLV => impliedBody bad clvEffect
  | .CMP => readBody bad cmpEffect
  | .CPX => readBody bad cpxEffect
  | .CPY => readBody bad cpyEffect
  | .DCP => rmwBody bad decResult dcpEffect
  | .DEC => rmwBody bad decResult decFlags
  | .DEX => impliedBody bad dexEffect
  | .DEY => impliedBody bad deyEffect
  | .EOR => readBody bad eorEffect
  | .INC => rmwBody bad incResult incFlags
  | .INX => impliedBody bad inxEffect
  | .INY => impliedBody bad inyEffect
  | .ISB => rmwBody bad incResult isbEffect
  | .JMP => jumpBody bad jmpEffect
  | .JSR => jumpBody bad jsrEffect
  | .LAX => readBody bad laxEffect
  | .LDA => readBody bad loadA
  | .LDX => readBody bad loadX
  | .LDY => readBody bad loadY
  | .LSR => if access = .register then registerBody bad (shiftA shiftLsr)
    else rmwBody bad (shiftResult shiftLsr) (shiftFlags shiftLsr)
  | .NOP => if access = .none then impliedBody bad nopEffect else readBody bad nopOperandEffect
  | .ORA => readBody bad oraEffect
  | .PHA => accessBody bad phaEffect
  | .PHP => accessBody bad phpEffect
  | .PLA => accessBody bad plaEffect
  | .PLP => accessBody bad plpEffect
  | .RLA => rmwBody bad (shiftResult shiftRol) rlaEffect
  | .ROL => if access = .register then registerBody bad (shiftA shiftRol)
    else rmwBody bad (shiftResult shiftRol) (shiftFlags shiftRol)
  | .ROR => if access = .register then registerBody bad (shiftA shiftRor)
    else rmwBody bad (shiftResult shiftRor) (shiftFlags shiftRor)
  | .RRA => rmwBody bad (shiftResult shiftRor) rraEffect
  | .RTI => accessBody bad rtiEffect
  | .RTS => accessBody bad rtsEffect
  | .SAX => writeBody bad storedAX
  | .SBC => readBody bad sbcEffect
  | .SEC => impliedBody bad secEffect
  | .SED => impliedBody bad sedEffect
  | .SEI => impliedBody bad seiEffect
  | .SLO => rmwBody bad (shiftResult shiftAsl) sloEffect
  | .SRE => rmwBody bad (shiftResult shiftLsr) sreEffect
  | .STA => writeBody bad storedA
  | .STX => writeBody bad storedX
  | .STY => writeBody bad storedY
  | .TAX => impliedBody bad taxEffect
  | .TAY => impliedBody bad tayEffect
  | .TSX => impliedBody bad tsxEffect
  | .TXA => impliedBody bad txaEffect
  | .TXS => impliedBody bad txsEffect
  | .TYA => impliedBody bad tyaEffect
  | .UNIMPLEMENTED => fun _ s => raise bad s

/-- exec of an implemented instruction is the common step with its body. -/
theorem exec_eq (i : Instr) (s : State) (h : i.row.implemented = true) :
    exec i s = execute i (bodyOf i.row.mnemonic i.row.access (badMode i s)) s := by
  cases i <;> first | rfl | (exact absurd h (by decide))

/-- exec of an unimplemented byte is its fault and changes nothing (R118, R242). -/
theorem exec_unimplemented (i : Instr) (s : State) (h : i.row.implemented = false) :
    exec i s = .fault { kind := .unknownOpcode s.pc i.row.opcode, left := s } := by
  cases i <;> first | rfl | (exact absurd h (by simp [Instr.row, Row.implemented]))

/-- No arm of exec refuses. -/
theorem exec_ne_refused (i : Instr) (s : State) (r : Refusal) : exec i s ≠ .refused r := by
  cases h : i.row.implemented with
  | true => rw [exec_eq i s h]; exact execute_ne_refused _ _ _ _
  | false => rw [exec_unimplemented i s h]; simp

end Sys2Proof.Machine
end

