-- ==== Sys2Proof/Laws/Bodies.lean ====
section
/-! SUPPORT. Inversion: for each access class and each instruction with accesses of its own, everything that holds when it
completes. A frame over all instructions splits on the mnemonic and cites one of these per case. -/

namespace Sys2Proof.Machine

variable {bad : FaultKind} {tgt : Target} {s t : State} {n : Nat}

/-! ### Access classes (R115) -/

theorem impliedBody_ok {f : State → State} (h : impliedBody bad f tgt s = .ok (n, t)) : n = 0 ∧ t = f s := by
  unfold impliedBody at h
  split at h
  · cases h; exact ⟨rfl, rfl⟩
  · cases h

theorem accessBody_ok {f : State → Bus Unit} (h : accessBody bad f tgt s = .ok (n, t)) : n = 0 ∧ f s = .ok ((), t) := by
  unfold accessBody at h
  split at h
  · simp only [andThen_eq_ok, Except.ok.injEq, Prod.mk.injEq] at h
    obtain ⟨_, _, h, rfl, rfl⟩ := h
    exact ⟨rfl, h⟩
  · cases h

theorem readBody_ok {f : Byte → State → State} (h : readBody bad f tgt s = .ok (n, t)) :
    n = 0 ∧ ∃ m s1, s1 = s.withLog s1.ppuLog ∧ t = f m s1 ∧
      ((tgt = .value m ∧ s1 = s) ∨ ∃ ea, tgt = .address ea ∧ memRead ea s = .ok (m, s1)) := by
  unfold readBody at h
  split at h
  · next m => cases h; exact ⟨rfl, m, s, rfl, rfl, .inl ⟨rfl, rfl⟩⟩
  · next ea =>
    simp only [andThen_eq_ok, Except.ok.injEq, Prod.mk.injEq] at h
    obtain ⟨m, s1, h, rfl, rfl⟩ := h
    exact ⟨rfl, m, s1, memRead_state h, rfl, .inr ⟨ea, rfl, h⟩⟩
  · cases h

theorem writeBody_ok {v : State → Byte} (h : writeBody bad v tgt s = .ok (n, t)) :
    n = 0 ∧ ∃ ea, tgt = .address ea ∧ memWrite ea (v s) s = .ok ((), t) := by
  unfold writeBody at h
  split at h
  · next ea =>
    simp only [andThen_eq_ok, Except.ok.injEq, Prod.mk.injEq] at h
    obtain ⟨_, _, h, rfl, rfl⟩ := h
    exact ⟨rfl, ea, rfl, h⟩
  · cases h

theorem rmwBody_ok {r : Byte → State → Byte} {post : Byte → State → State} (h : rmwBody bad r post tgt s = .ok (n, t)) :
    n = 0 ∧ ∃ ea m s1 s2, tgt = .address ea ∧ memRead ea s = .ok (m, s1) ∧ memWrite ea (r m s1) s1 = .ok ((), s2) ∧
      t = post m s2 := by
  unfold rmwBody at h
  split at h
  · next ea =>
    simp only [andThen_eq_ok, Except.ok.injEq, Prod.mk.injEq] at h
    obtain ⟨m, s1, h1, _, s2, h2, rfl, rfl⟩ := h
    exact ⟨rfl, ea, m, s1, s2, rfl, h1, h2, rfl⟩
  · cases h

theorem registerBody_ok {f : Byte → State → State} (h : registerBody bad f tgt s = .ok (n, t)) : n = 0 ∧ t = f s.a s := by
  unfold registerBody at h
  split at h
  · cases h; exact ⟨rfl, rfl⟩
  · cases h

theorem branchBody_ok {cond : State → Bool} (h : branchBody bad cond tgt s = .ok (n, t)) :
    n ≤ 2 ∧ ((t = s ∧ n = 0) ∨ ∃ target, tgt = .address target ∧ t = s.setPC target) := by
  unfold branchBody at h
  split at h
  · split at h
    · next target _ =>
      cases h
      exact ⟨by split <;> decide, .inr ⟨target, rfl, rfl⟩⟩
    · cases h; exact ⟨by decide, .inl ⟨rfl, rfl⟩⟩
  · cases h

theorem jumpBody_ok {f : Word → State → Bus Unit} (h : jumpBody bad f tgt s = .ok (n, t)) :
    n = 0 ∧ ∃ target, tgt = .address target ∧ f target s = .ok ((), t) := by
  unfold jumpBody at h
  split at h
  · next target =>
    simp only [andThen_eq_ok, Except.ok.injEq, Prod.mk.injEq] at h
    obtain ⟨_, _, h, rfl, rfl⟩ := h
    exact ⟨rfl, target, rfl, h⟩
  · cases h

/-! ### Instructions with accesses of their own -/

/-- A pair read through addresses that reach PRG-ROM has no side effect. -/
theorem readPair_prg {lo hi w : Word} {ol oh : Nat} (hl : s.target lo = .prg ol) (hh : s.target hi = .prg oh)
    (h : readPair lo hi s = .ok (w, t)) : t = s := by
  simp only [readPair, andThen_eq_ok, Except.ok.injEq, Prod.mk.injEq] at h
  obtain ⟨l, s1, h1, u, s2, h2, -, rfl⟩ := h
  rcases memRead_cases h1 with ⟨-, rfl⟩ | ⟨r, hr, -⟩
  · rcases memRead_cases h2 with ⟨-, rfl⟩ | ⟨r, hr, -⟩
    · rfl
    · simp [hh] at hr
  · simp [hl] at hr

/-- What entering the handler leaves when it completes: three stack bytes, SP down by 3, I set, a new PC, and a PPU record
(R213, R264). -/
theorem enterBreak_ok {ret : Word} (h : enterBreak ret s = .ok ((), t)) :
    ∃ target l, t = { s with
      sp := s.sp - 1 - 1 - 1, pc := target, flags := { s.flags with i := true }
      ram := ((s.ram.set (0x100 + s.sp.toNat) (hiByte ret)).set (0x100 + (s.sp - 1).toNat) (loByte ret)).set
        (0x100 + (s.sp - 1 - 1).toNat) (s.flags.pack true)
      ppuLog := l } := by
  unfold enterBreak at h
  rw [push16_eq, andThen_ok, push_eq, andThen_ok, andThen_eq_ok] at h
  obtain ⟨target, s3, h1, h2⟩ := h
  cases h2
  refine ⟨target, s3.ppuLog, ?_⟩
  rw [readPair_state h1]
  simp only [State.withLog, State.setPC, State.setFlags, State.setSP, State.setRam]

/-- Returning from a handler never faults: the status byte, then PC, with SP up by 3 (R212, R265). -/
theorem leaveBreak_eq (s : State) :
    leaveBreak s = .ok ((), { s with
      sp := s.sp + 1 + 1 + 1, flags := Flags.unpack (s.ram.get (0x100 + (s.sp + 1).toNat))
      pc := cat (s.ram.get (0x100 + (s.sp + 1 + 1 + 1).toNat)) (s.ram.get (0x100 + (s.sp + 1 + 1).toNat)) }) := by
  unfold leaveBreak
  rw [pull_eq, andThen_ok, pull16_eq, andThen_ok]
  rfl

/-- A call never faults: two stack bytes, SP down by 2, PC at the target (R210). -/
theorem jsrEffect_eq (target : Word) (s : State) :
    jsrEffect target s = .ok ((), { s with
      sp := s.sp - 1 - 1, pc := target
      ram := (s.ram.set (0x100 + s.sp.toNat) (hiByte (s.pc - 1))).set (0x100 + (s.sp - 1).toNat) (loByte (s.pc - 1)) }) := by
  unfold jsrEffect
  rw [push16_eq, andThen_ok]
  rfl

/-- A return from a call never faults: PC is the pulled address plus 1, SP up by 2 (R211). -/
theorem rtsEffect_eq (s : State) :
    rtsEffect s = .ok ((), { s with
      sp := s.sp + 1 + 1
      pc := cat (s.ram.get (0x100 + (s.sp + 1 + 1).toNat)) (s.ram.get (0x100 + (s.sp + 1).toNat)) + 1 }) := by
  unfold rtsEffect
  rw [pull16_eq, andThen_ok]
  rfl

theorem phaEffect_eq (s : State) :
    phaEffect s = .ok ((), { s with sp := s.sp - 1, ram := s.ram.set (0x100 + s.sp.toNat) s.a }) := by
  unfold phaEffect; rw [push_eq]; rfl

theorem phpEffect_eq (s : State) :
    phpEffect s = .ok ((), { s with sp := s.sp - 1, ram := s.ram.set (0x100 + s.sp.toNat) (s.flags.pack true) }) := by
  unfold phpEffect; rw [push_eq]; rfl

theorem plaEffect_eq (s : State) :
    plaEffect s = .ok ((), { s with
      sp := s.sp + 1, a := s.ram.get (0x100 + (s.sp + 1).toNat)
      flags := s.flags.setZN (s.ram.get (0x100 + (s.sp + 1).toNat)) }) := by
  unfold plaEffect; rw [pull_eq, andThen_ok]; rfl

theorem plpEffect_eq (s : State) :
    plpEffect s = .ok ((), { s with
      sp := s.sp + 1, flags := Flags.unpack (s.ram.get (0x100 + (s.sp + 1).toNat)) }) := by
  unfold plpEffect; rw [pull_eq, andThen_ok]; rfl

end Sys2Proof.Machine
end

