-- ==== Sys2Proof/Laws/Decode.lean ====
section
/-! SUPPORT. The laws of the byte helpers and of the decoder: what each kind of table entry decodes to. -/

namespace Sys2Proof

/-- The bits of an assembled word: those of the low byte, then those of the high byte (R8). -/
theorem getLsbD_cat (h l : Byte) (k : Nat) :
    (cat h l).getLsbD k = if k < 8 then l.getLsbD k else h.getLsbD (k - 8) := by
  have e := BitVec.getLsbD_append (x := h) (y := l) (i := k)
  exact e.trans (by split <;> simp_all)

@[simp] theorem loByte_cat (h l : Byte) : loByte (cat h l) = l := by
  apply BitVec.eq_of_getLsbD_eq
  intro k hk
  rw [loByte, BitVec.getLsbD_setWidth, getLsbD_cat]
  simp [hk]

@[simp] theorem hiByte_cat (h l : Byte) : hiByte (cat h l) = h := by
  apply BitVec.eq_of_getLsbD_eq
  intro k hk
  rw [hiByte, BitVec.getLsbD_setWidth, BitVec.getLsbD_ushiftRight, getLsbD_cat]
  simp [hk]

@[simp] theorem cat_hiByte_loByte (w : Word) : cat (hiByte w) (loByte w) = w := by
  apply BitVec.eq_of_getLsbD_eq
  intro k hk
  rw [getLsbD_cat, hiByte, loByte, BitVec.getLsbD_setWidth, BitVec.getLsbD_setWidth, BitVec.getLsbD_ushiftRight]
  by_cases h : k < 8
  · simp [h]
  · simp [h, show 8 + (k - 8) = k by omega, show k - 8 < 8 by omega]

/-- An opcode without operand decodes alone (R70). -/
theorem decode_of_op0 {op : Byte} {i : Instr} (h : lookup op = .op0 i) (rest : List Byte) :
    decode (op :: rest) = .ok (i, rest) := by
  simp [decode, h]

/-- An opcode with a one-byte operand decodes with the byte after it (R70, R71). -/
theorem decode_of_op1 {op : Byte} {f : Byte → Instr} (h : lookup op = .op1 f) (nn : Byte) (rest : List Byte) :
    decode (op :: nn :: rest) = .ok (f nn, rest) := by
  simp [decode, h]

/-- An opcode with a two-byte operand decodes with the two bytes after it, low byte first (R70 to R72). -/
theorem decode_of_op2 {op : Byte} {f : Word → Instr} (h : lookup op = .op2 f) (l u : Byte) (rest : List Byte) :
    decode (op :: l :: u :: rest) = .ok (f (cat u l), rest) := by
  simp [decode, h]

end Sys2Proof
end

