-- ==== Sys2Proof/Laws/Step.lean ====
section
/-! SUPPORT. The inversion of exec, of the fetch and of step: everything a completed step is made of. -/

namespace Sys2Proof.Machine

/-- A completed instruction is implemented, resolves its operand, runs the body of its mnemonic and is credited its cost
(R110, R114 to R117). -/
theorem exec_next {i : Instr} {s t : State} (h : exec i s = .next t) :
    i.row.implemented = true ∧ ∃ r s1 n s2, resolve i.row.operand (s.pastOperand i) = .ok (r, s1) ∧
      bodyOf i.row.mnemonic i.row.access (badMode i s) r.target s1 = .ok (n, s2) ∧
      t = s2.credit (Instr.cost i r.crossed n) := by
  cases hi : i.row.implemented with
  | false => rw [exec_unimplemented i s hi] at h; cases h
  | true =>
    rw [exec_eq i s hi] at h
    exact ⟨rfl, execute_eq_next.mp h⟩

/-- The fetch of an operand byte changes PC and at most the record of PPU accesses (R113). -/
theorem fetchOperand_state {pc0 : Word} {n : Nat} {s t : State} {b : Byte} (h : fetchOperand pc0 n s = .ok (b, t)) :
    t = (s.setPC (pc0 + BitVec.ofNat 16 n)).withLog t.ppuLog := memRead_state h

/-- The fetch changes at most the record of PPU accesses (R56, R111). -/
theorem fetch_state {s s1 : State} {i : Instr} (h : fetch s = .ok (i, s1)) : s1 = s.withLog s1.ppuLog := by
  simp only [fetch, andThen_eq_ok] at h
  obtain ⟨op, t, h1, h⟩ := h
  have e1 := memRead_state h1
  split at h
  · cases h; exact e1
  · simp only [andThen_eq_ok, Except.ok.injEq, Prod.mk.injEq] at h
    obtain ⟨b1, s2, h2, -, rfl⟩ := h
    rw [fetchOperand_state h2, e1]; rfl
  · simp only [andThen_eq_ok, Except.ok.injEq, Prod.mk.injEq] at h
    obtain ⟨b1, s2, h2, b2, s3, h3, -, rfl⟩ := h
    rw [fetchOperand_state h3, fetchOperand_state h2, e1]; rfl

/-- A step completes exactly when no fault mark is set, the fetch completes and the fetched instruction does (R110). -/
theorem step_eq_next {s t : State} :
    step s = .next t ↔ s.faultMark = none ∧ ∃ i s1, fetch s = .ok (i, s1) ∧ exec i s1 = .next t := by
  unfold step
  cases hm : s.faultMark with
  | some f => simp
  | none =>
    match hf : fetch s with
    | .error e => simp
    | .ok (i, s1) =>
      simp only [true_and, Except.ok.injEq, Prod.mk.injEq]
      constructor
      · intro h; exact ⟨i, s1, ⟨rfl, rfl⟩, h⟩
      · rintro ⟨_, _, ⟨rfl, rfl⟩, h⟩; exact h

/-- A step faults with the mark's fault, or in the fetch, or in the instruction (R262). -/
theorem step_eq_fault {s : State} {e : Fault} :
    step s = .fault e ↔ (∃ k, s.faultMark = some k ∧ e = { kind := k, left := s }) ∨ s.faultMark = none ∧
      (fetch s = .error e ∨ ∃ i s1, fetch s = .ok (i, s1) ∧ exec i s1 = .fault e) := by
  unfold step
  cases hm : s.faultMark with
  | some f => simp [eq_comm]
  | none =>
    match hf : fetch s with
    | .error e' => simp
    | .ok (i, s1) =>
      simp only [reduceCtorEq, false_and, exists_false, false_or, true_and, Except.ok.injEq, Prod.mk.injEq]
      constructor
      · intro h; exact ⟨i, s1, ⟨rfl, rfl⟩, h⟩
      · rintro ⟨_, _, ⟨rfl, rfl⟩, h⟩; exact h

/-- An unmarked step stops where its fetch fails or its instruction stops (R262). -/
theorem step_stops {s : State} {k : FaultKind} (hm : s.faultMark = none) :
    Stops (step s) k ↔ Fails (fetch s) k ∨ ∃ i s1, fetch s = .ok (i, s1) ∧ Stops (exec i s1) k := by
  simp only [Stops, Fails, step_eq_fault, hm, reduceCtorEq, false_and, exists_false, false_or, true_and, exists_or]
  refine or_congr_right ⟨?_, ?_⟩
  · rintro ⟨l, i, s1, h1, h2⟩; exact ⟨i, s1, h1, l, h2⟩
  · rintro ⟨i, s1, h1, l, h2⟩; exact ⟨l, i, s1, h1, h2⟩

/-- The fetch fails only in a read (R111, R113). -/
theorem fetch_fails {s : State} {k : FaultKind} (h : Fails (fetch s) k) : ∃ a s1, Fails (memRead a s1) k := by
  simp only [fetch, andThen_fails] at h
  rcases h with h | ⟨op, t, h1, h⟩
  · exact ⟨_, _, h⟩
  · split at h
    · simp at h
    · simp only [andThen_fails, fails_ok, and_false, exists_false, or_false] at h
      exact ⟨_, _, h⟩
    · simp only [andThen_fails, fails_ok, and_false, exists_false, or_false] at h
      rcases h with h | ⟨_, _, _, h⟩ <;> exact ⟨_, _, h⟩

/-- A read that completes gives the operand byte it gives to the fetch (R113). -/
theorem fetchOperand_of_memRead {pc0 : Word} {n : Nat} {s t : State} {b : Byte}
    (h : memRead (pc0 + BitVec.ofNat 16 n) s = .ok (b, t)) :
    fetchOperand pc0 n s = .ok (b, t.setPC (pc0 + BitVec.ofNat 16 n)) := memRead_setPC _ h

/-- The fetch of bytes that decode answers their instruction and the state their reads leave (R111 to R113). -/
theorem fetch_of_bytes {s t : State} {i : Instr} {bytes : List Byte} (hd : decode bytes = .ok (i, []))
    (hf : FetchesBytes s.pc bytes s t) : fetch s = .ok (i, t) := by
  match bytes with
  | [] => simp [decode] at hd
  | op :: rest =>
    obtain ⟨s1, h1, hf⟩ := hf
    have p1 : s1.pc = s.pc := by rw [memRead_state h1]; rfl
    simp only [fetch, h1, andThen_ok]
    cases hl : lookup op with
    | op0 j =>
      simp only [decode, hl, Except.ok.injEq, Prod.mk.injEq] at hd
      obtain ⟨rfl, rfl⟩ := hd
      cases hf; rfl
    | op1 f =>
      match rest with
      | [] => simp [decode, hl] at hd
      | nn :: r =>
        simp only [decode, hl, Except.ok.injEq, Prod.mk.injEq] at hd
        obtain ⟨rfl, rfl⟩ := hd
        obtain ⟨s2, h2, hf⟩ := hf
        cases hf
        have h2' := fetchOperand_of_memRead (pc0 := s.pc) (n := 1) h2
        simp only [h2', andThen_ok]
        rw [memRead_state h2, ← p1]; rfl
    | op2 f =>
      match rest with
      | [] => simp [decode, hl] at hd
      | [_] => simp [decode, hl] at hd
      | l :: h :: r =>
        simp only [decode, hl, Except.ok.injEq, Prod.mk.injEq] at hd
        obtain ⟨rfl, rfl⟩ := hd
        obtain ⟨s2, h2, s3, h3, hf⟩ := hf
        cases hf
        have h2' := fetchOperand_of_memRead (pc0 := s.pc) (n := 1) h2
        rw [show s.pc + 1 + 1 = s.pc + BitVec.ofNat 16 2 by rw [BitVec.add_assoc]; rfl] at h3
        have h3' := fetchOperand_of_memRead (pc0 := s.pc) (n := 2) (memRead_setPC (s.pc + BitVec.ofNat 16 1) h3)
        simp only [h2', andThen_ok, h3']
        rw [memRead_state h3, memRead_state h2, ← p1]; rfl

/-- Bytes of RAM, the APU array or PRG-ROM are fetched with no side effect (R56). -/
theorem fetches_of_peek {s : State} (bytes : List Byte) (a : Word)
    (h : ∀ k (h : k < bytes.length), s.peek (a + BitVec.ofNat 16 k) = some bytes[k]) : FetchesBytes a bytes s s := by
  induction bytes generalizing a with
  | nil => rfl
  | cons b rest ih =>
    refine ⟨s, memRead_of_peek (by have h0 := h 0 (by simp); rw [BitVec.add_zero] at h0; exact h0), ih (a + 1) fun k hk => ?_⟩
    have := h (k + 1) (by simp; omega)
    rw [show a + 1 + BitVec.ofNat 16 k = a + BitVec.ofNat 16 (k + 1) by
      rw [BitVec.add_assoc]; congr 1; rw [Nat.add_comm, BitVec.ofNat_add]; rfl]
    simpa using this

/-- Reading bytes changes at most the record of PPU accesses (R56). -/
theorem fetches_state {a : Word} {bytes : List Byte} {s t : State} (h : FetchesBytes a bytes s t) : t = s.withLog t.ppuLog := by
  induction bytes generalizing a s with
  | nil => cases h; rfl
  | cons b r ih => obtain ⟨s1, h1, h⟩ := h; rw [ih h, memRead_state h1]; rfl

/-- No step refuses. -/
theorem step_ne_refused (s : State) (r : Refusal) : step s ≠ .refused r := by
  unfold step
  split
  · simp
  · split
    · exact exec_ne_refused _ _ _
    · simp

end Sys2Proof.Machine
end

