-- ==== Sys2Proof/Laws/Mark.lean ====
section
/-! SUPPORT. No access and no instruction writes the fault mark, whether it completes or faults; only `advance` sets it (R37, R262). -/

namespace Sys2Proof.Machine

/-- Whether it completes or faults, the access leaves the fault mark as it was at s. -/
def KeepsMark {α : Type} (s : State) (r : Bus α) : Prop :=
  match r with
  | .ok (_, t) => t.faultMark = s.faultMark
  | .error e => e.left.faultMark = s.faultMark

theorem KeepsMark.andThen {α β : Type} {s : State} {r : Bus α} {f : α → State → Bus β} (h : KeepsMark s r)
    (hf : ∀ v t, KeepsMark t (f v t)) : KeepsMark s (andThen r f) := by
  match r, h with
  | .error e, h => exact h
  | .ok (v, t), h =>
    have := hf v t
    simp only [andThen_ok, KeepsMark] at this h ⊢
    split <;> simp_all

/-- The mark is all that is looked at. -/
theorem KeepsMark.congr {α : Type} {s s' : State} {r : Bus α} (hs : s'.faultMark = s.faultMark) (h : KeepsMark s' r) :
    KeepsMark s r := by
  unfold KeepsMark at h ⊢
  split at h <;> exact h.trans hs

theorem memRead_keepsMark (a : Word) (s : State) : KeepsMark s (memRead a s) := by
  unfold memRead
  split
  · rfl
  · rfl
  · rfl
  · rfl
  · split <;> rfl

theorem memWrite_keepsMark (a : Word) (v : Byte) (s : State) : KeepsMark s (memWrite a v s) := by
  unfold memWrite romWrite
  split
  · rfl
  · rfl
  · rfl
  · rfl
  · split <;> rfl

theorem readPair_keepsMark (lo hi : Word) (s : State) : KeepsMark s (readPair lo hi s) :=
  (memRead_keepsMark lo s).andThen fun _ t => (memRead_keepsMark hi t).andThen fun _ _ => rfl

theorem resolve_keepsMark (o : Operand) (s : State) : KeepsMark s (resolve o s) := by
  cases o
  case ind a => exact (readPair_keepsMark a (bugHigh a) s).andThen fun _ _ => rfl
  case indx nn => simp only [resolve, read16ZP_eq, andThen_ok]; rfl
  case indy nn => simp only [resolve, read16ZP_eq, andThen_ok]; rfl
  all_goals simp only [resolve, KeepsMark]

theorem enterBreak_keepsMark (ret : Word) (s : State) : KeepsMark s (enterBreak ret s) := by
  unfold enterBreak
  rw [push16_eq, andThen_ok, push_eq, andThen_ok]
  exact .congr (by rfl) ((readPair_keepsMark _ _ _).andThen fun _ _ => rfl)

variable {bad : FaultKind} {tgt : Target} {s : State}

/-! ### Bodies -/

theorem impliedBody_keepsMark {f : State → State} (hf : (f s).faultMark = s.faultMark) :
    KeepsMark s (impliedBody bad f tgt s) := by
  unfold impliedBody; split
  · exact hf
  · rfl

theorem accessBody_keepsMark {f : State → Bus Unit} (hf : KeepsMark s (f s)) :
    KeepsMark s (accessBody bad f tgt s) := by
  unfold accessBody; split
  · exact hf.andThen fun _ _ => rfl
  · rfl

theorem readBody_keepsMark {f : Byte → State → State} (hf : ∀ m t, (f m t).faultMark = t.faultMark) :
    KeepsMark s (readBody bad f tgt s) := by
  unfold readBody; split
  · exact hf _ _
  · exact (memRead_keepsMark _ _).andThen fun _ _ => hf _ _
  · rfl

theorem writeBody_keepsMark {v : State → Byte} : KeepsMark s (writeBody bad v tgt s) := by
  unfold writeBody; split
  · exact (memWrite_keepsMark _ _ _).andThen fun _ _ => rfl
  · rfl

theorem rmwBody_keepsMark {r : Byte → State → Byte} {post : Byte → State → State}
    (hp : ∀ m t, (post m t).faultMark = t.faultMark) : KeepsMark s (rmwBody bad r post tgt s) := by
  unfold rmwBody; split
  · exact (memRead_keepsMark _ _).andThen fun _ _ => (memWrite_keepsMark _ _ _).andThen fun _ _ => hp _ _
  · rfl

theorem registerBody_keepsMark {f : Byte → State → State} (hf : ∀ m t, (f m t).faultMark = t.faultMark) :
    KeepsMark s (registerBody bad f tgt s) := by
  unfold registerBody; split
  · exact hf _ _
  · rfl

theorem branchBody_keepsMark {cond : State → Bool} : KeepsMark s (branchBody bad cond tgt s) := by
  unfold branchBody; split
  · split <;> rfl
  · rfl

theorem jumpBody_keepsMark {f : Word → State → Bus Unit} (hf : ∀ w, KeepsMark s (f w s)) :
    KeepsMark s (jumpBody bad f tgt s) := by
  unfold jumpBody; split
  · exact (hf _).andThen fun _ _ => rfl
  · rfl

/-- No body writes the mark. -/
theorem bodyOf_keepsMark (m : Mnemonic) (access : AccessClass) : KeepsMark s (bodyOf m access bad tgt s) := by
  cases m <;> simp only [bodyOf]
  case BRK => exact accessBody_keepsMark (enterBreak_keepsMark _ _)
  case RTI => exact accessBody_keepsMark (by rw [show rtiEffect s = leaveBreak s from rfl, leaveBreak_eq]; rfl)
  case RTS => exact accessBody_keepsMark (by rw [rtsEffect_eq]; rfl)
  case PHA => exact accessBody_keepsMark (by rw [phaEffect_eq]; rfl)
  case PHP => exact accessBody_keepsMark (by rw [phpEffect_eq]; rfl)
  case PLA => exact accessBody_keepsMark (by rw [plaEffect_eq]; rfl)
  case PLP => exact accessBody_keepsMark (by rw [plpEffect_eq]; rfl)
  case JSR => exact jumpBody_keepsMark fun w => by rw [jsrEffect_eq]; rfl
  case JMP => exact jumpBody_keepsMark fun w => rfl
  case UNIMPLEMENTED => rfl
  all_goals
    repeat' split
    all_goals first
      | exact impliedBody_keepsMark rfl
      | exact readBody_keepsMark fun _ _ => rfl
      | exact writeBody_keepsMark
      | exact branchBody_keepsMark
      | exact registerBody_keepsMark fun _ _ => rfl
      | exact rmwBody_keepsMark fun _ _ => rfl

theorem fetch_keepsMark (s : State) : KeepsMark s (fetch s) := by
  unfold fetch fetchOperand
  refine (memRead_keepsMark _ _).andThen fun op t => ?_
  split
  · rfl
  · refine KeepsMark.andThen (s := t) (memRead_keepsMark _ (t.setPC _)) fun _ u => ?_
    rfl
  · refine KeepsMark.andThen (s := t) (memRead_keepsMark _ (t.setPC _)) fun _ u => ?_
    refine KeepsMark.andThen (s := u) (memRead_keepsMark _ (u.setPC _)) fun _ _ => ?_
    rfl

/-- The state an instruction's fault leaves has the mark it had; `advance` sets it (R262 a). -/
theorem exec_fault_mark {i : Instr} {s : State} {e : Fault} (h : exec i s = .fault e) : e.left.faultMark = s.faultMark := by
  cases hi : i.row.implemented with
  | false => rw [exec_unimplemented i s hi] at h; cases h; rfl
  | true =>
    rw [exec_eq i s hi, execute_eq_fault] at h
    rcases h with h | ⟨r, s1, h1, h⟩
    · have := resolve_keepsMark i.row.operand (s.pastOperand i)
      rw [h] at this; exact this
    · have := bodyOf_keepsMark (bad := badMode i s) (tgt := r.target) (s := s1) i.row.mnemonic i.row.access
      rw [h] at this
      rw [show e.left.faultMark = s1.faultMark from this, resolve_state h1]; rfl

/-- The same for a step. -/
theorem step_fault_mark {s : State} {e : Fault} (h : step s = .fault e) : e.left.faultMark = s.faultMark := by
  rcases step_eq_fault.mp h with ⟨k, hk, rfl⟩ | ⟨-, h | ⟨i, s1, h1, h⟩⟩
  · rfl
  · have := fetch_keepsMark s
    rw [h] at this; exact this
  · rw [exec_fault_mark h, fetch_state h1]; rfl

end Sys2Proof.Machine
end

