-- ==== Sys2Proof/Laws/PerInstr.lean ====
section
/-! SUPPORT. A per-instruction family: every row of the table is sound as data. -/

namespace Sys2Proof.Laws.RowSound

open Sys2Proof

/-- The row meets the checks of WellFormed exactly when it is implemented (R76, R120), and the encoded bytes are as many as the
format says (R70, R71). -/
def Statement (i : Instr) : Prop := i.wf = i.row.implemented ∧ (encode i).length = i.length

theorem oraIndx (nn : Byte) : Statement (.oraIndx nn) := ⟨rfl, rfl⟩
theorem sloIndx (nn : Byte) : Statement (.sloIndx nn) := ⟨rfl, rfl⟩
theorem nopZp04 (nn : Byte) : Statement (.nopZp04 nn) := ⟨rfl, rfl⟩
theorem oraZp (nn : Byte) : Statement (.oraZp nn) := ⟨rfl, rfl⟩
theorem aslZp (nn : Byte) : Statement (.aslZp nn) := ⟨rfl, rfl⟩
theorem sloZp (nn : Byte) : Statement (.sloZp nn) := ⟨rfl, rfl⟩
theorem oraImm (nn : Byte) : Statement (.oraImm nn) := ⟨rfl, rfl⟩
theorem nopAbs (a : Word) : Statement (.nopAbs a) := ⟨rfl, rfl⟩
theorem oraAbs (a : Word) : Statement (.oraAbs a) := ⟨rfl, rfl⟩
theorem aslAbs (a : Word) : Statement (.aslAbs a) := ⟨rfl, rfl⟩
theorem sloAbs (a : Word) : Statement (.sloAbs a) := ⟨rfl, rfl⟩
theorem bpl (nn : Byte) : Statement (.bpl nn) := ⟨rfl, rfl⟩
theorem oraIndy (nn : Byte) : Statement (.oraIndy nn) := ⟨rfl, rfl⟩
theorem sloIndy (nn : Byte) : Statement (.sloIndy nn) := ⟨rfl, rfl⟩
theorem nopZpx14 (nn : Byte) : Statement (.nopZpx14 nn) := ⟨rfl, rfl⟩
theorem oraZpx (nn : Byte) : Statement (.oraZpx nn) := ⟨rfl, rfl⟩
theorem aslZpx (nn : Byte) : Statement (.aslZpx nn) := ⟨rfl, rfl⟩
theorem sloZpx (nn : Byte) : Statement (.sloZpx nn) := ⟨rfl, rfl⟩
theorem oraAbsy (a : Word) : Statement (.oraAbsy a) := ⟨rfl, rfl⟩
theorem sloAbsy (a : Word) : Statement (.sloAbsy a) := ⟨rfl, rfl⟩
theorem nopAbsx1C (a : Word) : Statement (.nopAbsx1C a) := ⟨rfl, rfl⟩
theorem oraAbsx (a : Word) : Statement (.oraAbsx a) := ⟨rfl, rfl⟩
theorem aslAbsx (a : Word) : Statement (.aslAbsx a) := ⟨rfl, rfl⟩
theorem sloAbsx (a : Word) : Statement (.sloAbsx a) := ⟨rfl, rfl⟩
theorem jsr (a : Word) : Statement (.jsr a) := ⟨rfl, rfl⟩
theorem andIndx (nn : Byte) : Statement (.andIndx nn) := ⟨rfl, rfl⟩
theorem rlaIndx (nn : Byte) : Statement (.rlaIndx nn) := ⟨rfl, rfl⟩
theorem bitZp (nn : Byte) : Statement (.bitZp nn) := ⟨rfl, rfl⟩
theorem andZp (nn : Byte) : Statement (.andZp nn) := ⟨rfl, rfl⟩
theorem rolZp (nn : Byte) : Statement (.rolZp nn) := ⟨rfl, rfl⟩
theorem rlaZp (nn : Byte) : Statement (.rlaZp nn) := ⟨rfl, rfl⟩
theorem andImm (nn : Byte) : Statement (.andImm nn) := ⟨rfl, rfl⟩
theorem bitAbs (a : Word) : Statement (.bitAbs a) := ⟨rfl, rfl⟩
theorem andAbs (a : Word) : Statement (.andAbs a) := ⟨rfl, rfl⟩
theorem rolAbs (a : Word) : Statement (.rolAbs a) := ⟨rfl, rfl⟩
theorem rlaAbs (a : Word) : Statement (.rlaAbs a) := ⟨rfl, rfl⟩
theorem bmi (nn : Byte) : Statement (.bmi nn) := ⟨rfl, rfl⟩
theorem andIndy (nn : Byte) : Statement (.andIndy nn) := ⟨rfl, rfl⟩
theorem rlaIndy (nn : Byte) : Statement (.rlaIndy nn) := ⟨rfl, rfl⟩
theorem nopZpx34 (nn : Byte) : Statement (.nopZpx34 nn) := ⟨rfl, rfl⟩
theorem andZpx (nn : Byte) : Statement (.andZpx nn) := ⟨rfl, rfl⟩
theorem rolZpx (nn : Byte) : Statement (.rolZpx nn) := ⟨rfl, rfl⟩
theorem rlaZpx (nn : Byte) : Statement (.rlaZpx nn) := ⟨rfl, rfl⟩
theorem andAbsy (a : Word) : Statement (.andAbsy a) := ⟨rfl, rfl⟩
theorem rlaAbsy (a : Word) : Statement (.rlaAbsy a) := ⟨rfl, rfl⟩
theorem nopAbsx3C (a : Word) : Statement (.nopAbsx3C a) := ⟨rfl, rfl⟩
theorem andAbsx (a : Word) : Statement (.andAbsx a) := ⟨rfl, rfl⟩
theorem rolAbsx (a : Word) : Statement (.rolAbsx a) := ⟨rfl, rfl⟩
theorem rlaAbsx (a : Word) : Statement (.rlaAbsx a) := ⟨rfl, rfl⟩
theorem eorIndx (nn : Byte) : Statement (.eorIndx nn) := ⟨rfl, rfl⟩
theorem sreIndx (nn : Byte) : Statement (.sreIndx nn) := ⟨rfl, rfl⟩
theorem nopZp44 (nn : Byte) : Statement (.nopZp44 nn) := ⟨rfl, rfl⟩
theorem eorZp (nn : Byte) : Statement (.eorZp nn) := ⟨rfl, rfl⟩
theorem lsrZp (nn : Byte) : Statement (.lsrZp nn) := ⟨rfl, rfl⟩
theorem sreZp (nn : Byte) : Statement (.sreZp nn) := ⟨rfl, rfl⟩
theorem eorImm (nn : Byte) : Statement (.eorImm nn) := ⟨rfl, rfl⟩
theorem jmpAbs (a : Word) : Statement (.jmpAbs a) := ⟨rfl, rfl⟩
theorem eorAbs (a : Word) : Statement (.eorAbs a) := ⟨rfl, rfl⟩
theorem lsrAbs (a : Word) : Statement (.lsrAbs a) := ⟨rfl, rfl⟩
theorem sreAbs (a : Word) : Statement (.sreAbs a) := ⟨rfl, rfl⟩
theorem bvc (nn : Byte) : Statement (.bvc nn) := ⟨rfl, rfl⟩
theorem eorIndy (nn : Byte) : Statement (.eorIndy nn) := ⟨rfl, rfl⟩
theorem sreIndy (nn : Byte) : Statement (.sreIndy nn) := ⟨rfl, rfl⟩
theorem nopZpx54 (nn : Byte) : Statement (.nopZpx54 nn) := ⟨rfl, rfl⟩
theorem eorZpx (nn : Byte) : Statement (.eorZpx nn) := ⟨rfl, rfl⟩
theorem lsrZpx (nn : Byte) : Statement (.lsrZpx nn) := ⟨rfl, rfl⟩
theorem sreZpx (nn : Byte) : Statement (.sreZpx nn) := ⟨rfl, rfl⟩
theorem eorAbsy (a : Word) : Statement (.eorAbsy a) := ⟨rfl, rfl⟩
theorem sreAbsy (a : Word) : Statement (.sreAbsy a) := ⟨rfl, rfl⟩
theorem nopAbsx5C (a : Word) : Statement (.nopAbsx5C a) := ⟨rfl, rfl⟩
theorem eorAbsx (a : Word) : Statement (.eorAbsx a) := ⟨rfl, rfl⟩
theorem lsrAbsx (a : Word) : Statement (.lsrAbsx a) := ⟨rfl, rfl⟩
theorem sreAbsx (a : Word) : Statement (.sreAbsx a) := ⟨rfl, rfl⟩
theorem adcIndx (nn : Byte) : Statement (.adcIndx nn) := ⟨rfl, rfl⟩
theorem rraIndx (nn : Byte) : Statement (.rraIndx nn) := ⟨rfl, rfl⟩
theorem nopZp64 (nn : Byte) : Statement (.nopZp64 nn) := ⟨rfl, rfl⟩
theorem adcZp (nn : Byte) : Statement (.adcZp nn) := ⟨rfl, rfl⟩
theorem rorZp (nn : Byte) : Statement (.rorZp nn) := ⟨rfl, rfl⟩
theorem rraZp (nn : Byte) : Statement (.rraZp nn) := ⟨rfl, rfl⟩
theorem adcImm (nn : Byte) : Statement (.adcImm nn) := ⟨rfl, rfl⟩
theorem jmpInd (a : Word) : Statement (.jmpInd a) := ⟨rfl, rfl⟩
theorem adcAbs (a : Word) : Statement (.adcAbs a) := ⟨rfl, rfl⟩
theorem rorAbs (a : Word) : Statement (.rorAbs a) := ⟨rfl, rfl⟩
theorem rraAbs (a : Word) : Statement (.rraAbs a) := ⟨rfl, rfl⟩
theorem bvs (nn : Byte) : Statement (.bvs nn) := ⟨rfl, rfl⟩
theorem adcIndy (nn : Byte) : Statement (.adcIndy nn) := ⟨rfl, rfl⟩
theorem rraIndy (nn : Byte) : Statement (.rraIndy nn) := ⟨rfl, rfl⟩
theorem nopZpx74 (nn : Byte) : Statement (.nopZpx74 nn) := ⟨rfl, rfl⟩
theorem adcZpx (nn : Byte) : Statement (.adcZpx nn) := ⟨rfl, rfl⟩
theorem rorZpx (nn : Byte) : Statement (.rorZpx nn) := ⟨rfl, rfl⟩
theorem rraZpx (nn : Byte) : Statement (.rraZpx nn) := ⟨rfl, rfl⟩
theorem adcAbsy (a : Word) : Statement (.adcAbsy a) := ⟨rfl, rfl⟩
theorem rraAbsy (a : Word) : Statement (.rraAbsy a) := ⟨rfl, rfl⟩
theorem nopAbsx7C (a : Word) : Statement (.nopAbsx7C a) := ⟨rfl, rfl⟩
theorem adcAbsx (a : Word) : Statement (.adcAbsx a) := ⟨rfl, rfl⟩
theorem rorAbsx (a : Word) : Statement (.rorAbsx a) := ⟨rfl, rfl⟩
theorem rraAbsx (a : Word) : Statement (.rraAbsx a) := ⟨rfl, rfl⟩
theorem nopImm80 (nn : Byte) : Statement (.nopImm80 nn) := ⟨rfl, rfl⟩
theorem staIndx (nn : Byte) : Statement (.staIndx nn) := ⟨rfl, rfl⟩
theorem nopImm82 (nn : Byte) : Statement (.nopImm82 nn) := ⟨rfl, rfl⟩
theorem saxIndx (nn : Byte) : Statement (.saxIndx nn) := ⟨rfl, rfl⟩
theorem styZp (nn : Byte) : Statement (.styZp nn) := ⟨rfl, rfl⟩
theorem staZp (nn : Byte) : Statement (.staZp nn) := ⟨rfl, rfl⟩
theorem stxZp (nn : Byte) : Statement (.stxZp nn) := ⟨rfl, rfl⟩
theorem saxZp (nn : Byte) : Statement (.saxZp nn) := ⟨rfl, rfl⟩
theorem nopImm89 (nn : Byte) : Statement (.nopImm89 nn) := ⟨rfl, rfl⟩
theorem styAbs (a : Word) : Statement (.styAbs a) := ⟨rfl, rfl⟩
theorem staAbs (a : Word) : Statement (.staAbs a) := ⟨rfl, rfl⟩
theorem stxAbs (a : Word) : Statement (.stxAbs a) := ⟨rfl, rfl⟩
theorem saxAbs (a : Word) : Statement (.saxAbs a) := ⟨rfl, rfl⟩
theorem bcc (nn : Byte) : Statement (.bcc nn) := ⟨rfl, rfl⟩
theorem staIndy (nn : Byte) : Statement (.staIndy nn) := ⟨rfl, rfl⟩
theorem styZpx (nn : Byte) : Statement (.styZpx nn) := ⟨rfl, rfl⟩
theorem staZpx (nn : Byte) : Statement (.staZpx nn) := ⟨rfl, rfl⟩
theorem stxZpy (nn : Byte) : Statement (.stxZpy nn) := ⟨rfl, rfl⟩
theorem saxZpy (nn : Byte) : Statement (.saxZpy nn) := ⟨rfl, rfl⟩
theorem staAbsy (a : Word) : Statement (.staAbsy a) := ⟨rfl, rfl⟩
theorem staAbsx (a : Word) : Statement (.staAbsx a) := ⟨rfl, rfl⟩
theorem ldyImm (nn : Byte) : Statement (.ldyImm nn) := ⟨rfl, rfl⟩
theorem ldaIndx (nn : Byte) : Statement (.ldaIndx nn) := ⟨rfl, rfl⟩
theorem ldxImm (nn : Byte) : Statement (.ldxImm nn) := ⟨rfl, rfl⟩
theorem laxIndx (nn : Byte) : Statement (.laxIndx nn) := ⟨rfl, rfl⟩
theorem ldyZp (nn : Byte) : Statement (.ldyZp nn) := ⟨rfl, rfl⟩
theorem ldaZp (nn : Byte) : Statement (.ldaZp nn) := ⟨rfl, rfl⟩
theorem ldxZp (nn : Byte) : Statement (.ldxZp nn) := ⟨rfl, rfl⟩
theorem laxZp (nn : Byte) : Statement (.laxZp nn) := ⟨rfl, rfl⟩
theorem ldaImm (nn : Byte) : Statement (.ldaImm nn) := ⟨rfl, rfl⟩
theorem ldyAbs (a : Word) : Statement (.ldyAbs a) := ⟨rfl, rfl⟩
theorem ldaAbs (a : Word) : Statement (.ldaAbs a) := ⟨rfl, rfl⟩
theorem ldxAbs (a : Word) : Statement (.ldxAbs a) := ⟨rfl, rfl⟩
theorem laxAbs (a : Word) : Statement (.laxAbs a) := ⟨rfl, rfl⟩
theorem bcs (nn : Byte) : Statement (.bcs nn) := ⟨rfl, rfl⟩
theorem ldaIndy (nn : Byte) : Statement (.ldaIndy nn) := ⟨rfl, rfl⟩
theorem laxIndy (nn : Byte) : Statement (.laxIndy nn) := ⟨rfl, rfl⟩
theorem ldyZpx (nn : Byte) : Statement (.ldyZpx nn) := ⟨rfl, rfl⟩
theorem ldaZpx (nn : Byte) : Statement (.ldaZpx nn) := ⟨rfl, rfl⟩
theorem ldxZpy (nn : Byte) : Statement (.ldxZpy nn) := ⟨rfl, rfl⟩
theorem laxZpy (nn : Byte) : Statement (.laxZpy nn) := ⟨rfl, rfl⟩
theorem ldaAbsy (a : Word) : Statement (.ldaAbsy a) := ⟨rfl, rfl⟩
theorem ldyAbsx (a : Word) : Statement (.ldyAbsx a) := ⟨rfl, rfl⟩
theorem ldaAbsx (a : Word) : Statement (.ldaAbsx a) := ⟨rfl, rfl⟩
theorem ldxAbsy (a : Word) : Statement (.ldxAbsy a) := ⟨rfl, rfl⟩
theorem laxAbsy (a : Word) : Statement (.laxAbsy a) := ⟨rfl, rfl⟩
theorem cpyImm (nn : Byte) : Statement (.cpyImm nn) := ⟨rfl, rfl⟩
theorem cmpIndx (nn : Byte) : Statement (.cmpIndx nn) := ⟨rfl, rfl⟩
theorem nopImmC2 (nn : Byte) : Statement (.nopImmC2 nn) := ⟨rfl, rfl⟩
theorem dcpIndx (nn : Byte) : Statement (.dcpIndx nn) := ⟨rfl, rfl⟩
theorem cpyZp (nn : Byte) : Statement (.cpyZp nn) := ⟨rfl, rfl⟩
theorem cmpZp (nn : Byte) : Statement (.cmpZp nn) := ⟨rfl, rfl⟩
theorem decZp (nn : Byte) : Statement (.decZp nn) := ⟨rfl, rfl⟩
theorem dcpZp (nn : Byte) : Statement (.dcpZp nn) := ⟨rfl, rfl⟩
theorem cmpImm (nn : Byte) : Statement (.cmpImm nn) := ⟨rfl, rfl⟩
theorem cpyAbs (a : Word) : Statement (.cpyAbs a) := ⟨rfl, rfl⟩
theorem cmpAbs (a : Word) : Statement (.cmpAbs a) := ⟨rfl, rfl⟩
theorem decAbs (a : Word) : Statement (.decAbs a) := ⟨rfl, rfl⟩
theorem dcpAbs (a : Word) : Statement (.dcpAbs a) := ⟨rfl, rfl⟩
theorem bne (nn : Byte) : Statement (.bne nn) := ⟨rfl, rfl⟩
theorem cmpIndy (nn : Byte) : Statement (.cmpIndy nn) := ⟨rfl, rfl⟩
theorem dcpIndy (nn : Byte) : Statement (.dcpIndy nn) := ⟨rfl, rfl⟩
theorem nopZpxD4 (nn : Byte) : Statement (.nopZpxD4 nn) := ⟨rfl, rfl⟩
theorem cmpZpx (nn : Byte) : Statement (.cmpZpx nn) := ⟨rfl, rfl⟩
theorem decZpx (nn : Byte) : Statement (.decZpx nn) := ⟨rfl, rfl⟩
theorem dcpZpx (nn : Byte) : Statement (.dcpZpx nn) := ⟨rfl, rfl⟩
theorem cmpAbsy (a : Word) : Statement (.cmpAbsy a) := ⟨rfl, rfl⟩
theorem dcpAbsy (a : Word) : Statement (.dcpAbsy a) := ⟨rfl, rfl⟩
theorem nopAbsxDC (a : Word) : Statement (.nopAbsxDC a) := ⟨rfl, rfl⟩
theorem cmpAbsx (a : Word) : Statement (.cmpAbsx a) := ⟨rfl, rfl⟩
theorem decAbsx (a : Word) : Statement (.decAbsx a) := ⟨rfl, rfl⟩
theorem dcpAbsx (a : Word) : Statement (.dcpAbsx a) := ⟨rfl, rfl⟩
theorem cpxImm (nn : Byte) : Statement (.cpxImm nn) := ⟨rfl, rfl⟩
theorem sbcIndx (nn : Byte) : Statement (.sbcIndx nn) := ⟨rfl, rfl⟩
theorem nopImmE2 (nn : Byte) : Statement (.nopImmE2 nn) := ⟨rfl, rfl⟩
theorem isbIndx (nn : Byte) : Statement (.isbIndx nn) := ⟨rfl, rfl⟩
theorem cpxZp (nn : Byte) : Statement (.cpxZp nn) := ⟨rfl, rfl⟩
theorem sbcZp (nn : Byte) : Statement (.sbcZp nn) := ⟨rfl, rfl⟩
theorem incZp (nn : Byte) : Statement (.incZp nn) := ⟨rfl, rfl⟩
theorem isbZp (nn : Byte) : Statement (.isbZp nn) := ⟨rfl, rfl⟩
theorem sbcImm (nn : Byte) : Statement (.sbcImm nn) := ⟨rfl, rfl⟩
theorem sbcImmEB (nn : Byte) : Statement (.sbcImmEB nn) := ⟨rfl, rfl⟩
theorem cpxAbs (a : Word) : Statement (.cpxAbs a) := ⟨rfl, rfl⟩
theorem sbcAbs (a : Word) : Statement (.sbcAbs a) := ⟨rfl, rfl⟩
theorem incAbs (a : Word) : Statement (.incAbs a) := ⟨rfl, rfl⟩
theorem isbAbs (a : Word) : Statement (.isbAbs a) := ⟨rfl, rfl⟩
theorem beq (nn : Byte) : Statement (.beq nn) := ⟨rfl, rfl⟩
theorem sbcIndy (nn : Byte) : Statement (.sbcIndy nn) := ⟨rfl, rfl⟩
theorem isbIndy (nn : Byte) : Statement (.isbIndy nn) := ⟨rfl, rfl⟩
theorem nopZpxF4 (nn : Byte) : Statement (.nopZpxF4 nn) := ⟨rfl, rfl⟩
theorem sbcZpx (nn : Byte) : Statement (.sbcZpx nn) := ⟨rfl, rfl⟩
theorem incZpx (nn : Byte) : Statement (.incZpx nn) := ⟨rfl, rfl⟩
theorem isbZpx (nn : Byte) : Statement (.isbZpx nn) := ⟨rfl, rfl⟩
theorem sbcAbsy (a : Word) : Statement (.sbcAbsy a) := ⟨rfl, rfl⟩
theorem isbAbsy (a : Word) : Statement (.isbAbsy a) := ⟨rfl, rfl⟩
theorem nopAbsxFC (a : Word) : Statement (.nopAbsxFC a) := ⟨rfl, rfl⟩
theorem sbcAbsx (a : Word) : Statement (.sbcAbsx a) := ⟨rfl, rfl⟩
theorem incAbsx (a : Word) : Statement (.incAbsx a) := ⟨rfl, rfl⟩
theorem isbAbsx (a : Word) : Statement (.isbAbsx a) := ⟨rfl, rfl⟩
theorem brk : Statement (.brk) := ⟨rfl, rfl⟩
theorem unimplemented02 : Statement (.unimplemented02) := ⟨rfl, rfl⟩
theorem php : Statement (.php) := ⟨rfl, rfl⟩
theorem aslAcc : Statement (.aslAcc) := ⟨rfl, rfl⟩
theorem unimplemented0B : Statement (.unimplemented0B) := ⟨rfl, rfl⟩
theorem unimplemented12 : Statement (.unimplemented12) := ⟨rfl, rfl⟩
theorem clc : Statement (.clc) := ⟨rfl, rfl⟩
theorem nop1A : Statement (.nop1A) := ⟨rfl, rfl⟩
theorem unimplemented22 : Statement (.unimplemented22) := ⟨rfl, rfl⟩
theorem plp : Statement (.plp) := ⟨rfl, rfl⟩
theorem rolAcc : Statement (.rolAcc) := ⟨rfl, rfl⟩
theorem unimplemented2B : Statement (.unimplemented2B) := ⟨rfl, rfl⟩
theorem unimplemented32 : Statement (.unimplemented32) := ⟨rfl, rfl⟩
theorem sec : Statement (.sec) := ⟨rfl, rfl⟩
theorem nop3A : Statement (.nop3A) := ⟨rfl, rfl⟩
theorem rti : Statement (.rti) := ⟨rfl, rfl⟩
theorem unimplemented42 : Statement (.unimplemented42) := ⟨rfl, rfl⟩
theorem pha : Statement (.pha) := ⟨rfl, rfl⟩
theorem lsrAcc : Statement (.lsrAcc) := ⟨rfl, rfl⟩
theorem unimplemented4B : Statement (.unimplemented4B) := ⟨rfl, rfl⟩
theorem unimplemented52 : Statement (.unimplemented52) := ⟨rfl, rfl⟩
theorem cli : Statement (.cli) := ⟨rfl, rfl⟩
theorem nop5A : Statement (.nop5A) := ⟨rfl, rfl⟩
theorem rts : Statement (.rts) := ⟨rfl, rfl⟩
theorem unimplemented62 : Statement (.unimplemented62) := ⟨rfl, rfl⟩
theorem pla : Statement (.pla) := ⟨rfl, rfl⟩
theorem rorAcc : Statement (.rorAcc) := ⟨rfl, rfl⟩
theorem unimplemented6B : Statement (.unimplemented6B) := ⟨rfl, rfl⟩
theorem unimplemented72 : Statement (.unimplemented72) := ⟨rfl, rfl⟩
theorem sei : Statement (.sei) := ⟨rfl, rfl⟩
theorem nop7A : Statement (.nop7A) := ⟨rfl, rfl⟩
theorem dey : Statement (.dey) := ⟨rfl, rfl⟩
theorem txa : Statement (.txa) := ⟨rfl, rfl⟩
theorem unimplemented8B : Statement (.unimplemented8B) := ⟨rfl, rfl⟩
theorem unimplemented92 : Statement (.unimplemented92) := ⟨rfl, rfl⟩
theorem unimplemented93 : Statement (.unimplemented93) := ⟨rfl, rfl⟩
theorem tya : Statement (.tya) := ⟨rfl, rfl⟩
theorem txs : Statement (.txs) := ⟨rfl, rfl⟩
theorem unimplemented9B : Statement (.unimplemented9B) := ⟨rfl, rfl⟩
theorem unimplemented9C : Statement (.unimplemented9C) := ⟨rfl, rfl⟩
theorem unimplemented9E : Statement (.unimplemented9E) := ⟨rfl, rfl⟩
theorem unimplemented9F : Statement (.unimplemented9F) := ⟨rfl, rfl⟩
theorem tay : Statement (.tay) := ⟨rfl, rfl⟩
theorem tax : Statement (.tax) := ⟨rfl, rfl⟩
theorem unimplementedAB : Statement (.unimplementedAB) := ⟨rfl, rfl⟩
theorem unimplementedB2 : Statement (.unimplementedB2) := ⟨rfl, rfl⟩
theorem clv : Statement (.clv) := ⟨rfl, rfl⟩
theorem tsx : Statement (.tsx) := ⟨rfl, rfl⟩
theorem unimplementedBB : Statement (.unimplementedBB) := ⟨rfl, rfl⟩
theorem iny : Statement (.iny) := ⟨rfl, rfl⟩
theorem dex : Statement (.dex) := ⟨rfl, rfl⟩
theorem unimplementedCB : Statement (.unimplementedCB) := ⟨rfl, rfl⟩
theorem unimplementedD2 : Statement (.unimplementedD2) := ⟨rfl, rfl⟩
theorem cld : Statement (.cld) := ⟨rfl, rfl⟩
theorem nopDA : Statement (.nopDA) := ⟨rfl, rfl⟩
theorem inx : Statement (.inx) := ⟨rfl, rfl⟩
theorem nop : Statement (.nop) := ⟨rfl, rfl⟩
theorem unimplementedF2 : Statement (.unimplementedF2) := ⟨rfl, rfl⟩
theorem sed : Statement (.sed) := ⟨rfl, rfl⟩
theorem nopFA : Statement (.nopFA) := ⟨rfl, rfl⟩

/-- Every instruction's row is sound. -/
theorem all (i : Instr) : Statement i := by cases i <;> exact ⟨rfl, rfl⟩

end Sys2Proof.Laws.RowSound
end

