-- ==== Sys2Proof/Laws/Schemes.lean ====
section
/-! SUPPORT. For each execution scheme, what it answers once the operand is known: the lemmas a claim about one instruction cites. -/

namespace Sys2Proof.Machine

variable {i : Instr} {s s1 t : State} {ea : Word} {m : Byte} {crossed : Bool} {k : FaultKind}

/-! ### Operands -/

theorem Addresses.state (h : Addresses i s ea crossed s1) : s1 = (s.pastOperand i).withLog s1.ppuLog :=
  resolve_state h

theorem Supplies.state (h : Supplies i s m crossed s1) : s1 = (s.pastOperand i).withLog s1.ppuLog := by
  rcases h with h | ⟨ea, s0, h, hr⟩
  · exact resolve_state h
  · rw [memRead_state hr, h.state]; rfl

/-- Only absx, absy and indy report a page cross (R90). -/
theorem resolve_crossed {o : Operand} {r : Resolved} (h : resolve o s = .ok (r, s1)) (hc : r.crossed = true) :
    o.mode = .absx ∨ o.mode = .absy ∨ o.mode = .indy := by
  cases o <;> simp only [resolve, andThen_eq_ok, Except.ok.injEq, Prod.mk.injEq, uncrossed] at h <;>
    simp only [Operand.mode, reduceCtorEq, or_false, or_true] <;> grind

/-- The cost with the penalty as the row has it (R117). -/
theorem cost_of_class_read (h : i.row.access = .read) {r : Resolved} (hr : resolve i.row.operand s = .ok (r, s1)) :
    Instr.cost i r.crossed 0 = i.row.cycles + r.crossed.toNat := by
  cases hc : r.crossed with
  | false => simp [Instr.cost]
  | true => rcases resolve_crossed hr hc with h' | h' | h' <;> simp [Instr.cost, Row.pagePenalty, h, h']

/-- No penalty outside class read (R80). -/
theorem cost_of_class_other (h : i.row.access ≠ .read) (c : Bool) (n : Nat) : Instr.cost i c n = i.row.cycles + n := by
  simp [Instr.cost, Row.pagePenalty, h]

/-! ### Classes read and immediate -/

theorem execRead_of_supplies (f : Byte → State → State) (h : Supplies i s m crossed s1) :
    execRead i f s = .next ((f m s1).credit (Instr.cost i crossed 0)) := by
  rcases h with h | ⟨ea, s0, h, hr⟩
  · exact execute_eq_next.mpr ⟨_, s1, 0, f m s1, h, rfl, rfl⟩
  · exact execute_eq_next.mpr ⟨_, s0, 0, f m s1, h, by simp [readBody, hr], rfl⟩

theorem execRead_of_faults (f : Byte → State → State) (h : ReadFaults i s k) : Stops (execRead i f s) k := by
  rcases h with h | ⟨ea, c, s0, h, hr⟩
  · exact execute_stops.mpr (.inl h)
  · exact execute_stops.mpr (.inr ⟨_, s0, h, andThen_fails.mpr (.inl hr)⟩)

/-- An immediate row has the immediate mode (R71, R115). -/
theorem immediate_mode (i : Instr) : (i.row.access == .immediate && i.row.operand.mode != .imm) = false := by
  cases i <;> rfl

/-- The cost of a read-class or immediate instruction (R104, R117). -/
theorem cost_of_supplies (ha : i.row.access = .read ∨ i.row.access = .immediate) (h : Supplies i s m crossed s1) :
    Instr.cost i crossed 0 = i.row.cycles + crossed.toNat := by
  have hr : ∃ r s0, resolve i.row.operand (s.pastOperand i) = .ok (r, s0) ∧ r.crossed = crossed := by
    rcases h with h | ⟨ea, s0, h, -⟩ <;> exact ⟨_, _, h, rfl⟩
  obtain ⟨r, s0, hr, rfl⟩ := hr
  rcases ha with ha | ha
  · exact cost_of_class_read ha hr
  · cases hc : r.crossed with
    | false => simp [Instr.cost]
    | true =>
      have hi := immediate_mode i
      rcases resolve_crossed hr hc with hm | hm | hm <;> simp [ha, hm] at hi

/-- A read-class or immediate instruction whose operand is supplied answers the state its effect gives, from the state past the
operand with the read's PPU record (R110, R115). -/
theorem execRead_eq (f : Byte → State → State) (ha : i.row.access = .read ∨ i.row.access = .immediate)
    (h : Supplies i s m crossed s1) :
    execRead i f s =
      .next ((f m ((s.pastOperand i).withLog s1.ppuLog)).credit (i.row.cycles + crossed.toNat)) := by
  rw [execRead_of_supplies f h, cost_of_supplies ha h, ← h.state]

/-! ### Classes write and rmw -/

/-- Every mode of class write or rmw gives an address and never faults in resolving (R101 to R105). -/
theorem addresses_of_write (ha : i.row.access = .write ∨ i.row.access = .rmw) (s : State) :
    ∃ ea crossed s1, Addresses i s ea crossed s1 ∧ s1 = s.pastOperand i := by
  have hm : ((i.row.access == .write || i.row.access == .rmw) &&
      (i.row.operand.mode == .imp || i.row.operand.mode == .acc || i.row.operand.mode == .imm ||
        i.row.operand.mode == .ind)) = false := by
    cases i <;> rfl
  have hm' : i.row.operand.mode ≠ .imp ∧ i.row.operand.mode ≠ .acc ∧ i.row.operand.mode ≠ .imm ∧
      i.row.operand.mode ≠ .ind := by
    rcases ha with ha | ha <;> simp [ha] at hm <;> exact ⟨hm.1.1.1, hm.1.1.2, hm.1.2, hm.2⟩
  unfold Addresses
  cases ho : i.row.operand <;> simp only [ho, Operand.mode, ne_eq, reduceCtorEq, not_true_eq_false, and_false, false_and] at hm'
  all_goals
    simp only [resolve, read16ZP_eq, andThen_ok, uncrossed, indexed]
    exact ⟨_, _, _, rfl, rfl⟩

theorem writable_congr (hp : s1.params = s.params) : writable s1 ea = writable s ea := by
  simp only [writable, State.target, hp]

/-- A write-class instruction: one write at EA (R115 e). -/
theorem execWrite_next (v : State → Byte) (ha : i.row.access = .write) (h : Addresses i s ea crossed s1)
    (hw : memWrite ea (v s1) s1 = .ok ((), t)) : execWrite i v s = .next (t.credit i.row.cycles) := by
  refine execute_eq_next.mpr ⟨_, s1, 0, t, h, by simp [writeBody, hw], ?_⟩
  rw [cost_of_class_other (by simp [ha]), Nat.add_zero]

theorem execWrite_fault (v : State → Byte) (h : Addresses i s ea crossed s1)
    (hw : Fails (memWrite ea (v s1) s1) k) : Stops (execWrite i v s) k :=
  execute_stops.mpr (.inr ⟨_, s1, h, andThen_fails.mpr (.inl hw)⟩)

variable {s2 : State} {r : Byte → State → Byte} {post : Byte → State → State}

/-- A read-modify-write instruction: one read and one write at EA, then the effect on registers and flags (R115 f). -/
theorem execRmw_next (ha : i.row.access = .rmw) (h : Addresses i s ea crossed s1) (hr : memRead ea s1 = .ok (m, s2))
    (hw : memWrite ea (r m s2) s2 = .ok ((), t)) : execRmw i r post s = .next ((post m t).credit i.row.cycles) := by
  refine execute_eq_next.mpr ⟨_, s1, 0, post m t, h, by simp [rmwBody, hr, hw], ?_⟩
  rw [cost_of_class_other (by simp [ha]), Nat.add_zero]

theorem execRmw_readFault (h : Addresses i s ea crossed s1) (hr : Fails (memRead ea s1) k) :
    Stops (execRmw i r post s) k :=
  execute_stops.mpr (.inr ⟨_, s1, h, andThen_fails.mpr (.inl hr)⟩)

theorem execRmw_writeFault (h : Addresses i s ea crossed s1) (hr : memRead ea s1 = .ok (m, s2))
    (hw : Fails (memWrite ea (r m s2) s2) k) : Stops (execRmw i r post s) k :=
  execute_stops.mpr (.inr ⟨_, s1, h, andThen_fails.mpr (.inr ⟨m, s2, hr, andThen_fails.mpr (.inl hw)⟩)⟩)

/-- A read-modify-write instruction in every state: its address, and for the byte read there the write, the next state and the
faults (R115 f). -/
theorem execRmw_cases (r : Byte → State → Byte) (post : Byte → State → State) (ha : i.row.access = .rmw) (s : State) :
    ∃ ea crossed s1, Addresses i s ea crossed s1 ∧
      (∀ m s2, memRead ea s1 = .ok (m, s2) → s2 = (s.pastOperand i).withLog s2.ppuLog ∧
        (writable s ea = true → ∃ t, memWrite ea (r m s2) s2 = .ok ((), t) ∧
          t = { s.pastOperand i with ram := t.ram, apu := t.apu, ppuLog := t.ppuLog } ∧
          execRmw i r post s = .next ((post m t).credit i.row.cycles)) ∧
        (∀ k, Fails (memWrite ea (r m s2) s2) k → Stops (execRmw i r post s) k)) ∧
      (∀ k, Fails (memRead ea s1) k → Stops (execRmw i r post s) k) := by
  obtain ⟨ea, c, s1, h, hs⟩ := addresses_of_write (.inr ha) s
  refine ⟨ea, c, s1, h, ?_, fun e he => execRmw_readFault h he⟩
  intro m s2 hr
  have h2 := memRead_state hr
  refine ⟨by rw [hs] at h2; exact h2, ?_, fun e he => execRmw_writeFault h hr he⟩
  intro hw
  obtain ⟨t, ht⟩ := (memWrite_isOk ea (r m s2) s2).mpr ((writable_congr (by rw [h2, hs]; rfl)).trans hw)
  refine ⟨t, ht, ?_, execRmw_next ha h hr ht⟩
  rw [memWrite_state ht, h2, hs]; rfl

/-! ### Classes none, register and jump -/

theorem execImplied_eq (f : State → State) (ho : i.row.operand = .imp) (ha : i.row.access ≠ .read) :
    execImplied i f s = .next ((f (s.pastOperand i)).credit i.row.cycles) := by
  refine execute_eq_next.mpr ⟨⟨.noTarget, false⟩, s.pastOperand i, 0, f (s.pastOperand i), by simp [ho, resolve], rfl, ?_⟩
  rw [cost_of_class_other ha, Nat.add_zero]

theorem execAccess_next {f : State → Bus Unit} (ho : i.row.operand = .imp) (ha : i.row.access ≠ .read)
    (h : f (s.pastOperand i) = .ok ((), t)) : execAccess i f s = .next (t.credit i.row.cycles) := by
  refine execute_eq_next.mpr ⟨⟨.noTarget, false⟩, s.pastOperand i, 0, t, by simp [ho, resolve], by simp [accessBody, h], ?_⟩
  rw [cost_of_class_other ha, Nat.add_zero]

theorem execAccess_fault {f : State → Bus Unit} (ho : i.row.operand = .imp) (h : Fails (f (s.pastOperand i)) k) :
    Stops (execAccess i f s) k :=
  execute_stops.mpr (.inr ⟨⟨.noTarget, false⟩, s.pastOperand i, by simp [ho, resolve], andThen_fails.mpr (.inl h)⟩)

theorem execRegister_eq (f : Byte → State → State) (ho : i.row.operand = .acc) (ha : i.row.access ≠ .read) :
    execRegister i f s = .next ((f s.a (s.pastOperand i)).credit i.row.cycles) := by
  refine execute_eq_next.mpr ⟨⟨.accumulator, false⟩, s.pastOperand i, 0, f s.a (s.pastOperand i), by simp [ho, resolve],
    by simp [registerBody], ?_⟩
  rw [cost_of_class_other ha, Nat.add_zero]

theorem execBranch_taken {cond : State → Bool} {nn : Byte} {target : Word} (ho : i.row.operand = .rel nn)
    (ha : i.row.access ≠ .read) (hc : cond (s.pastOperand i) = true)
    (ht : target = s.pc + BitVec.ofNat 16 i.length + sext16 nn) :
    execBranch i cond s = .next (((s.pastOperand i).setPC target).credit
      (i.row.cycles + (1 + if hiByte (s.pc + BitVec.ofNat 16 i.length) != hiByte target then 1 else 0))) := by
  subst ht
  refine execute_eq_next.mpr ⟨_, s.pastOperand i, _, _, by simp only [ho, resolve, uncrossed]; rfl, ?_,
    by rw [cost_of_class_other ha]⟩
  simp [branchBody, hc]

theorem execBranch_notTaken {cond : State → Bool} {nn : Byte} (ho : i.row.operand = .rel nn)
    (ha : i.row.access ≠ .read) (hc : cond (s.pastOperand i) = false) :
    execBranch i cond s = .next ((s.pastOperand i).credit i.row.cycles) := by
  refine execute_eq_next.mpr ⟨_, s.pastOperand i, 0, s.pastOperand i, by simp only [ho, resolve, uncrossed]; rfl, ?_,
    by rw [cost_of_class_other ha, Nat.add_zero]⟩
  simp [branchBody, hc]

theorem execJump_next {f : Word → State → Bus Unit} (ha : i.row.access ≠ .read) (h : Addresses i s ea crossed s1)
    (hf : f ea s1 = .ok ((), t)) : execJump i f s = .next (t.credit i.row.cycles) := by
  refine execute_eq_next.mpr ⟨_, s1, 0, t, h, by simp [jumpBody, hf], ?_⟩
  rw [cost_of_class_other ha, Nat.add_zero]

end Sys2Proof.Machine
end

