-- ==== Sys2Proof/Machine/Assembler.lean ====
section
/-! DEFINITION. The assembler text of an instruction (R78, R79), as the trace prints it. No step reads it. -/

namespace Sys2Proof.Machine

/-- The spelling of a mnemonic. ISB is also spelled ISC (R79). -/
def mnemonicText : Mnemonic → String
  | .ADC => "ADC"
  | .AND => "AND"
  | .ASL => "ASL"
  | .BCC => "BCC"
  | .BCS => "BCS"
  | .BEQ => "BEQ"
  | .BIT => "BIT"
  | .BMI => "BMI"
  | .BNE => "BNE"
  | .BPL => "BPL"
  | .BRK => "BRK"
  | .BVC => "BVC"
  | .BVS => "BVS"
  | .CLC => "CLC"
  | .CLD => "CLD"
  | .CLI => "CLI"
  | .CLV => "CLV"
  | .CMP => "CMP"
  | .CPX => "CPX"
  | .CPY => "CPY"
  | .DCP => "DCP"
  | .DEC => "DEC"
  | .DEX => "DEX"
  | .DEY => "DEY"
  | .EOR => "EOR"
  | .INC => "INC"
  | .INX => "INX"
  | .INY => "INY"
  | .ISB => "ISB"
  | .JMP => "JMP"
  | .JSR => "JSR"
  | .LAX => "LAX"
  | .LDA => "LDA"
  | .LDX => "LDX"
  | .LDY => "LDY"
  | .LSR => "LSR"
  | .NOP => "NOP"
  | .ORA => "ORA"
  | .PHA => "PHA"
  | .PHP => "PHP"
  | .PLA => "PLA"
  | .PLP => "PLP"
  | .RLA => "RLA"
  | .ROL => "ROL"
  | .ROR => "ROR"
  | .RRA => "RRA"
  | .RTI => "RTI"
  | .RTS => "RTS"
  | .SAX => "SAX"
  | .SBC => "SBC"
  | .SEC => "SEC"
  | .SED => "SED"
  | .SEI => "SEI"
  | .SLO => "SLO"
  | .SRE => "SRE"
  | .STA => "STA"
  | .STX => "STX"
  | .STY => "STY"
  | .TAX => "TAX"
  | .TAY => "TAY"
  | .TSX => "TSX"
  | .TXA => "TXA"
  | .TXS => "TXS"
  | .TYA => "TYA"
  | .UNIMPLEMENTED => "???"

/-- A hex digit, capital as in R78. -/
def hexDigit (n : Nat) : Char := if n < 10 then Char.ofNat (48 + n) else Char.ofNat (55 + n)

/-- Two hex digits. -/
def hex2 (b : Byte) : String := String.ofList [hexDigit (b.toNat / 16), hexDigit (b.toNat % 16)]

/-- Four hex digits. -/
def hex4 (w : Word) : String := hex2 (hiByte w) ++ hex2 (loByte w)

/-- The operand text of R78; a branch prints its target, computed from PC after the operand (R97). -/
def operandText (o : Operand) (pcAfter : Word) : String :=
  match o with
  | .imp => ""
  | .acc => " A"
  | .imm nn => " #$" ++ hex2 nn
  | .zp nn => " $" ++ hex2 nn
  | .zpx nn => " $" ++ hex2 nn ++ ",X"
  | .zpy nn => " $" ++ hex2 nn ++ ",Y"
  | .rel nn => " $" ++ hex4 (pcAfter + sext16 nn)
  | .abs a => " $" ++ hex4 a
  | .absx a => " $" ++ hex4 a ++ ",X"
  | .absy a => " $" ++ hex4 a ++ ",Y"
  | .ind a => " ($" ++ hex4 a ++ ")"
  | .indx nn => " ($" ++ hex2 nn ++ ",X)"
  | .indy nn => " ($" ++ hex2 nn ++ "),Y"

/-- An instruction at an address, in assembler text (R78). -/
def assemblerText (i : Instr) (pc0 : Word) : String :=
  mnemonicText i.row.mnemonic ++ operandText i.row.operand (pc0 + BitVec.ofNat 16 i.length)

/-- The trace marks an unofficial opcode with a leading star (R79, R230 e). -/
def traceText (i : Instr) (pc0 : Word) : String :=
  (if i.row.official then "" else "*") ++ assemblerText i pc0

end Sys2Proof.Machine
end

