-- ==== Sys2Proof/Tests/Slice0.lean ====
section
/-! SUPPORT. Tests: ill-formed rows are refused, words written out bit by bit decode, one step of each instruction against the
vectors of spec 95 (each test names its vector), and a witness for the hypotheses of each obligation. -/

namespace Sys2Proof.Tests

set_option Elab.async false

open Sys2Proof.Machine

/-! ## WellFormed refuses ill-formed rows -/

/-- Check 1: STA has no immediate mode (R134, R120). -/
theorem test_wf_mode : Row.modeDefined
    { opcode := 0x89, mnemonic := .STA, operand := .imm 0, cycles := 2, access := .immediate, official := true } = false := by
  decide +kernel

/-- Check 2: a read needs an address, which accumulator mode does not give (R92, R115). -/
theorem test_wf_class : Row.classFits
    { opcode := 0x0A, mnemonic := .ASL, operand := .acc, cycles := 2, access := .read, official := true } = false := by
  decide +kernel

/-- Check 3: no instruction costs 9 cycles (R117). -/
theorem test_wf_cost : Row.costInRange
    { opcode := 0xA9, mnemonic := .LDA, operand := .imm 0, cycles := 9, access := .immediate, official := true } = false := by
  decide +kernel

/-- A row that fails one check is not well-formed, whatever the others say. -/
theorem test_wf_refuses : Row.wf
    { opcode := 0xA9, mnemonic := .LDA, operand := .imm 0, cycles := 9, access := .immediate, official := true } = false := by
  decide +kernel

/-- The row of LDA #nn (R131) meets all three. -/
theorem test_wf_accepts : Row.wf (Instr.ldaImm 0x10).row = true := by decide +kernel

/-- XAA, 0x8B, is not implemented (R242). -/
theorem test_wf_unimplemented : Instr.unimplemented8B.wf = false := by decide +kernel

/-! ## Decoding -/

/-- R131. -/
theorem test_decode_lda_imm : decode [0b10101001, 0b00010000] = .ok (.ldaImm 0x10, []) := by decide +kernel

/-- R132. -/
theorem test_decode_ldx_absy : decode [0b10111110, 0b00110100, 0b00010010] = .ok (.ldxAbsy 0x1234, []) := by decide +kernel

/-- R134. -/
theorem test_decode_sta_indy : decode [0b10010001, 0b00100000] = .ok (.staIndy 0x20, []) := by decide +kernel

/-- R142. -/
theorem test_decode_txs : decode [0b10011010] = .ok (.txs, []) := by decide +kernel

/-- R151. -/
theorem test_decode_php : decode [0b00001000] = .ok (.php, []) := by decide +kernel

/-- R163. -/
theorem test_decode_adc_absx : decode [0b01111101, 0b11111111, 0b00010000] = .ok (.adcAbsx 0x10FF, []) := by decide +kernel

/-- R235. -/
theorem test_decode_sbc_eb : decode [0b11101011, 0b00000001] = .ok (.sbcImmEB 0x01, []) := by decide +kernel

/-- R171. -/
theorem test_decode_cpy_abs : decode [0b11001100, 0b00000000, 0b10000000] = .ok (.cpyAbs 0x8000, []) := by decide +kernel

/-- R195. -/
theorem test_decode_ror_acc : decode [0b01101010] = .ok (.rorAcc, []) := by decide +kernel

/-- R193. -/
theorem test_decode_lsr_zpx : decode [0b01010110, 0b10000001] = .ok (.lsrZpx 0x81, []) := by decide +kernel

/-- R209. -/
theorem test_decode_jmp_ind : decode [0b01101100, 0b11111111, 0b00000010] = .ok (.jmpInd 0x02FF, []) := by decide +kernel

/-- R204. -/
theorem test_decode_bne : decode [0b11010000, 0b11111000] = .ok (.bne 0xF8, []) := by decide +kernel

/-- R213. -/
theorem test_decode_brk : decode [0b00000000] = .ok (.brk, []) := by decide +kernel

/-- R226. -/
theorem test_decode_clv : decode [0b10111000] = .ok (.clv, []) := by decide +kernel

/-- R232. -/
theorem test_decode_nop_absx : decode [0b00011100, 0b11111111, 0b00000010] = .ok (.nopAbsx1C 0x02FF, []) := by decide +kernel

/-- R236. -/
theorem test_decode_dcp_indx : decode [0b11000011, 0b00100100] = .ok (.dcpIndx 0x24, []) := by decide +kernel

/-- R233. -/
theorem test_decode_lax_zpy : decode [0b10110111, 0b01000000] = .ok (.laxZpy 0x40, []) := by decide +kernel

/-- R242. -/
theorem test_decode_xaa : decode [0b10001011] = .ok (.unimplemented8B, []) := by decide +kernel

/-- A missing operand byte is refused by name (R70). -/
theorem test_decode_short : decode [0xAD, 0x34] = .error (.missingOperand 0xAD) := by decide +kernel

/-- The table word of LDA abs with operand 0x1234, numbered from the first byte up (R72). -/
theorem test_decode_table_word : decodeTableWord 24 0x1234AD = some (.ldaAbs 0x1234) := by decide +kernel

/-- R78: BNE at 0xC00A with displacement 0xF8 prints its target. -/
theorem test_assembler_text : assemblerText (.bne 0xF8) 0xC00A = "BNE $C004" := by decide +kernel

/-- R79: an unofficial opcode is marked with a star. -/
theorem test_trace_text : traceText (.laxZp 0x10) 0xC000 = "*LAX $10" := by decide +kernel

/-! ## One step

`code bytes` is the reset state with the bytes at 0xC000; `ends s p` says that the step from s completes in a state with p. -/

def code (bytes : List Byte) : State := placeBytes State.reset 0xC000 bytes

/-- Bytes placed in memory. -/
def poke (s : State) (a : Word) (bytes : List Byte) : State := placeBytes s a bytes

/-- The six flags set from a status byte (R28). -/
def status (s : State) (p : Byte) : State := { s with flags := Flags.unpack p }

def ends (s : State) (p : State → Bool) : Bool :=
  match step s with
  | .next t => p t
  | .fault _ => false
  | .refused _ => false

/-- The step faults with this kind. -/
def faults (s : State) (k : FaultKind) : Bool :=
  match step s with
  | .next _ => false
  | .fault f => f.kind == k
  | .refused _ => false

/-- The bytes at the end of the APU array, with PC at the first. -/
def lastApu (bytes : List Byte) : State :=
  let a : Word := 0x4018 - BitVec.ofNat 16 bytes.length
  { poke State.reset a bytes with pc := a }

/-- A cartridge image that ends with the bytes at 0xC000. -/
def shortCart (bytes : List Byte) : State := placeBytes { State.reset with cart := none } 0xC000 bytes

/-- The live status byte and the cost of the step from a counter of 7. -/
def pOf (t : State) : Byte := t.flags.pack false

def costOf (t : State) : Nat := (t.cycles - 7).toNat


/-! ### Bus -/

/-- 95 M1. -/
theorem test_bus_ram_mirror : ends (poke (code [0xAD, 0xFF, 0x1F]) 0x07FF [0xCD])
    (fun t => t.a == 0xCD && t.flags.n == true && costOf t == 4) = true := by decide +kernel

/-- 95 M2. -/
theorem test_bus_ppu_write : ends { code [0x8D, 0x08, 0x20] with a := 0x80 }
    (fun t => t.ppuLog == [.write 7 0 0x80] && costOf t == 4) = true := by decide +kernel

/-- 95 M4, with the oracle's answer left free. -/
theorem test_bus_ppu_read : ∃ t, step (code [0xAD, 0x02, 0x20]) = .next t ∧ t.a = Config.ppuOracle [] 7 2 ∧
    t.ppuLog = [.read 7 2 (Config.ppuOracle [] 7 2)] :=
  ⟨_, rfl, rfl, rfl⟩

/-- 95 M6. -/
theorem test_bus_apu_read : ends (code [0xAD, 0x00, 0x40])
    (fun t => t.a == 0x00 && t.flags.z == true && costOf t == 4) = true := by decide +kernel

/-- 95 M7. -/
theorem test_bus_unmapped_read : faults (code [0xAD, 0x18, 0x40]) (.unmappedAddress 0x4018 .read) = true := by decide +kernel

/-- 95 M8. -/
theorem test_bus_unmapped_write : faults (code [0x8D, 0x00, 0x60]) (.unmappedAddress 0x6000 .write) = true := by decide +kernel

/-- 95 M13. -/
theorem test_bus_rom_write : faults (code [0x8D, 0x00, 0x80]) (.romWrite 0x8000 0x00) = true := by decide +kernel

/-- 95 M14. -/
theorem test_bus_rom_write_ignored : ends { code [0x8D, 0x00, 0x80] with params := { Params.default with romWritePolicy := .ignore } }
    (fun t => t.pc == 0xC003 && costOf t == 4) = true := by decide +kernel

/-- 95 M12: a 16 KB image with PRG_UPPER_BASE = 0x4000 has nothing behind 0xC000. -/
theorem test_bus_config_error :
    faults { State.reset with params := { Params.default with prgUpperBase := 0x4000 } } (.configError 0x4000) = true := by
  decide +kernel

/-- R111, R113, R261: the second byte of LDA imm stands at 0x4018. -/
theorem test_operand_unmapped : faults (lastApu [0xA9]) (.unmappedAddress 0x4018 .read) = true := by decide +kernel

/-- R48, R113: the third byte of LDA abs lies past the image. -/
theorem test_operand_config_error : faults (shortCart [0xAD, 0x34]) (.configError 2) = true := by decide +kernel

/-- R44, R63, R111: the operand byte of LDA imm is fetched from PPU register 0, as one event. -/
theorem test_operand_from_ppu : ∃ t, step { poke State.reset 0x1FFF [0xA9] with pc := 0x1FFF } = .next t ∧
    t.a = Config.ppuOracle [] 7 0 ∧ t.pc = 0x2001 ∧ t.ppuLog = [.read 7 0 (Config.ppuOracle [] 7 0)] :=
  ⟨_, rfl, rfl, rfl, rfl⟩

/-- R262 b: the event of the first read is kept when the second faults. -/
theorem test_fault_keeps_event : readPair 0x2002 0x4018 .reset = .error {
    kind := .unmappedAddress 0x4018 .read
    left := State.reset.logPpu (.read 7 2 (Config.ppuOracle [] 7 2)) } := rfl

/-! ### Loads, stores, transfers (42) -/

/-- The word placed by withFetchWord is the one the step runs (R111, R131). -/
theorem test_with_fetch_word : ends (State.reset.withFetchWord 16 0x10A9) (fun t => t.a == 0x10 && t.pc == 0xC002) = true := by
  decide +kernel

/-- 95 L1. -/
theorem test_lda_zero : ends { code [0xA9, 0x00] with a := 0x55 }
    (fun t => t.a == 0x00 && pOf t == 0x26) = true := by decide +kernel

/-- 95 A3. -/
theorem test_lda_absx_cross : ends { poke (code [0xBD, 0xFF, 0x10]) 0x1100 [0x77] with x := 0x01 }
    (fun t => t.a == 0x77 && costOf t == 5) = true := by decide +kernel

/-- 95 A2. -/
theorem test_ldx_zpy_wrap : ends { poke (code [0xB6, 0xFF]) 0x0001 [0x07] with y := 0x02 }
    (fun t => t.x == 0x07 && costOf t == 4) = true := by decide +kernel

/-- 95 L2. -/
theorem test_ldy_imm : ends (code [0xA0, 0x80])
    (fun t => t.y == 0x80 && pOf t == 0xA4) = true := by decide +kernel

/-- 95 A5. -/
theorem test_sta_absx_wrap : ends { code [0x9D, 0xFF, 0xFF] with a := 0x55, x := 0x02 }
    (fun t => t.peek 0x0001 == some 0x55 && costOf t == 5) = true := by decide +kernel

/-- 95 A10. -/
theorem test_sta_indy : ends { poke (code [0x91, 0x10]) 0x0010 [0xF8, 0x02] with a := 0x11, y := 0x10 }
    (fun t => t.peek 0x0308 == some 0x11 && costOf t == 6) = true := by decide +kernel

/-- 95 P1, STX $10 of the first iteration. -/
theorem test_stx_zp : ends { code [0x86, 0x10] with x := 0x05 }
    (fun t => t.peek 0x0010 == some 0x05 && costOf t == 3 && pOf t == 0x24) = true := by decide +kernel

/-- R136: STY writes Y and no flag. -/
theorem test_sty_zpx : ends { code [0x94, 0xFF] with y := 0x80, x := 0x02 }
    (fun t => t.peek 0x0001 == some 0x80 && pOf t == 0x24 && costOf t == 4) = true := by decide +kernel

/-- 95 L3. -/
theorem test_tax : ends { status (code [0xAA]) 0xA4 with a := 0x00, x := 0x05 }
    (fun t => t.x == 0x00 && pOf t == 0x26) = true := by decide +kernel

/-- R138. -/
theorem test_tay : ends { code [0xA8] with a := 0x81 } (fun t => t.y == 0x81 && pOf t == 0xA4) = true := by decide +kernel

/-- R139. -/
theorem test_txa : ends { code [0x8A] with x := 0x81 } (fun t => t.a == 0x81 && pOf t == 0xA4) = true := by decide +kernel

/-- R140. -/
theorem test_tya : ends { code [0x98] with y := 0x01 } (fun t => t.a == 0x01 && pOf t == 0x24) = true := by decide +kernel

/-- 95 L5. -/
theorem test_tsx : ends { code [0xBA] with sp := 0x00, x := 0x09 }
    (fun t => t.x == 0x00 && pOf t == 0x26) = true := by decide +kernel

/-- 95 L4. -/
theorem test_txs : ends { status (code [0x9A]) 0xA4 with x := 0x00 }
    (fun t => t.sp == 0x00 && pOf t == 0xA4) = true := by decide +kernel

/-! ### Stack (43) -/

/-- 95 S7. -/
theorem test_pha_wrap : ends { code [0x48] with a := 0x33, sp := 0x00 }
    (fun t => t.peek 0x0100 == some 0x33 && t.sp == 0xFF && costOf t == 3) = true := by decide +kernel

/-- 95 L6. -/
theorem test_php : ends (status (code [0x08]) 0xEF)
    (fun t => t.peek 0x01FD == some 0xFF && t.sp == 0xFC) = true := by decide +kernel

/-- 95 L10. -/
theorem test_pla_wrap : ends { code [0x68] with sp := 0xFF, a := 0x01 }
    (fun t => t.a == 0x00 && t.flags.z == true && t.sp == 0x00) = true := by decide +kernel

/-- 95 L8. -/
theorem test_plp : ends { poke (code [0x28]) 0x01FF [0xFF] with sp := 0xFE }
    (fun t => pOf t == 0xEF && t.sp == 0xFF) = true := by decide +kernel

/-! ### Arithmetic and logic (44) -/

/-- 95 S3. -/
theorem test_adc_overflow : ends { code [0x69, 0x01] with a := 0x7F }
    (fun t => t.a == 0x80 && pOf t == 0xE4 && costOf t == 2) = true := by decide +kernel

/-- 95 section 2.4, decimal mode, from P = 0x2C. -/
theorem test_adc_decimal_ignored : ends { status (code [0x69, 0x01]) 0x2C with a := 0x09 }
    (fun t => t.a == 0x0A && pOf t == 0x2C) = true := by decide +kernel

/-- 95 section 2.4, SBC 0x50 - 0xB0. -/
theorem test_sbc_overflow : ends { status (code [0xE9, 0xB0]) 0x25 with a := 0x50 }
    (fun t => t.a == 0xA0 && pOf t == 0xE4) = true := by decide +kernel

/-- 95 U8. -/
theorem test_sbc_eb : ends (status (code [0xEB, 0x01]) 0x25)
    (fun t => t.a == 0xFF && pOf t == 0xA4 && costOf t == 2) = true := by decide +kernel

/-- 95 section 2.4, AND. -/
theorem test_and : ends { code [0x29, 0x0F] with a := 0xF0 }
    (fun t => t.a == 0x00 && t.flags.z == true) = true := by decide +kernel

/-- 95 section 2.4, ORA. -/
theorem test_ora : ends { code [0x09, 0x0F] with a := 0xF0 }
    (fun t => t.a == 0xFF && t.flags.n == true) = true := by decide +kernel

/-- 95 section 2.4, EOR. -/
theorem test_eor : ends { code [0x49, 0xFF] with a := 0xF0 }
    (fun t => t.a == 0x0F && t.flags.z == false && t.flags.n == false) = true := by decide +kernel

/-- 95 section 2.4, BIT. -/
theorem test_bit : ends { poke (code [0x24, 0x10]) 0x0010 [0x41] with a := 0x01 }
    (fun t => t.a == 0x01 && pOf t == 0x64 && costOf t == 3) = true := by decide +kernel

/-- 95 S4. -/
theorem test_cmp_equal : ends { code [0xC9, 0x10] with a := 0x10 }
    (fun t => t.a == 0x10 && pOf t == 0x27 && costOf t == 2) = true := by decide +kernel

/-- 95 section 2.4, CMP 0x10 - 0x20 with X. -/
theorem test_cpx_below : ends { code [0xE0, 0x20] with x := 0x10 }
    (fun t => t.flags.c == false && t.flags.z == false && t.flags.n == true) = true := by decide +kernel

/-- 95 section 2.4, CMP 0x80 - 0x00 with Y. -/
theorem test_cpy_unsigned : ends { code [0xC0, 0x00] with y := 0x80 }
    (fun t => t.flags.c == true && t.flags.z == false && t.flags.n == true) = true := by decide +kernel

/-- 95 section 2.4, INC. -/
theorem test_inc : ends (status (poke (code [0xEE, 0xFF, 0x07]) 0x07FF [0xFF]) 0x25)
    (fun t => t.peek 0x07FF == some 0x00 && t.flags.z == true && t.flags.c == true && costOf t == 6) = true := by decide +kernel

/-- R173: DEC from 0 wraps to 0xFF and leaves C. -/
theorem test_dec : ends (status (code [0xC6, 0x10]) 0x25)
    (fun t => t.peek 0x0010 == some 0xFF && pOf t == 0xA5 && costOf t == 5) = true := by decide +kernel

/-- R174: INX wraps. -/
theorem test_inx : ends { code [0xE8] with x := 0xFF } (fun t => t.x == 0x00 && pOf t == 0x26) = true := by decide +kernel

/-- 95 section 2.4, INY. -/
theorem test_iny : ends { code [0xC8] with y := 0x7F }
    (fun t => t.y == 0x80 && t.flags.n == true) = true := by decide +kernel

/-- 95 section 2.4, DEX. -/
theorem test_dex : ends (code [0xCA])
    (fun t => t.x == 0xFF && pOf t == 0xA4) = true := by decide +kernel

/-- 95 P4, the last DEY. -/
theorem test_dey : ends (code [0x88])
    (fun t => t.y == 0xFF && t.flags.n == true) = true := by decide +kernel

/-- 95 M15; offset 0 of the image holds the opcode 0xEE. -/
theorem test_inc_rom : faults (code [0xEE, 0x00, 0x80]) (.romWrite 0x8000 0xEF) = true := by decide +kernel

/-! ### Shifts (45) -/

/-- 95 H1. -/
theorem test_asl_acc : ends { code [0x0A] with a := 0x81 }
    (fun t => t.a == 0x02 && pOf t == 0x25 && costOf t == 2) = true := by decide +kernel

/-- 95 H2. -/
theorem test_asl_zpx_wrap : ends { poke (code [0x16, 0x10]) 0x0005 [0xC0] with x := 0xF5 }
    (fun t => t.peek 0x0005 == some 0x80 && pOf t == 0xA5 && costOf t == 6) = true := by decide +kernel

/-- 95 H3. -/
theorem test_lsr_zp : ends (poke (code [0x46, 0x10]) 0x0010 [0x03])
    (fun t => t.peek 0x0010 == some 0x01 && pOf t == 0x25 && costOf t == 5) = true := by decide +kernel

/-- 95 H4. -/
theorem test_rol_acc : ends { status (code [0x2A]) 0x25 with a := 0x40 }
    (fun t => t.a == 0x81 && pOf t == 0xA4) = true := by decide +kernel

/-- 95 H5. -/
theorem test_ror_acc : ends { status (code [0x6A]) 0x25 with a := 0x02 }
    (fun t => t.a == 0x81 && pOf t == 0xA4) = true := by decide +kernel

/-- 95 H6. -/
theorem test_ror_acc_zero : ends { code [0x6A] with a := 0x01 }
    (fun t => t.a == 0x00 && pOf t == 0x27) = true := by decide +kernel

/-! ### Control transfer (46) -/

/-- 95 A11. -/
theorem test_bcc_back : ends (code [0x90, 0x80])
    (fun t => t.pc == 0xBF82 && costOf t == 4) = true := by decide +kernel

/-- R202: not taken with C clear. -/
theorem test_bcs : ends (code [0xB0, 0x10]) (fun t => t.pc == 0xC002 && costOf t == 2) = true := by decide +kernel

/-- 95 B2. -/
theorem test_beq : ends (status (code [0xF0, 0xFE]) 0x26)
    (fun t => t.pc == 0xC000 && costOf t == 3) = true := by decide +kernel

/-- 95 S6. -/
theorem test_bne_cross : ends { poke State.reset 0xC0EE [0xD0, 0x15] with pc := 0xC0EE }
    (fun t => t.pc == 0xC105 && costOf t == 4) = true := by decide +kernel

/-- 95 B1. -/
theorem test_bne_not_taken : ends (status (code [0xD0, 0x10]) 0x26)
    (fun t => t.pc == 0xC002 && costOf t == 2) = true := by decide +kernel

/-- 95 B3. -/
theorem test_bmi : ends { status (poke State.reset 0xC0FD [0x30, 0x01]) 0xA4 with pc := 0xC0FD }
    (fun t => t.pc == 0xC100 && costOf t == 4) = true := by decide +kernel

/-- 95 B4. -/
theorem test_bpl : ends { poke State.reset 0xC100 [0x10, 0xFC] with pc := 0xC100 }
    (fun t => t.pc == 0xC0FE && costOf t == 4) = true := by decide +kernel

/-- R207: taken with V clear. -/
theorem test_bvc : ends (code [0x50, 0x7F]) (fun t => t.pc == 0xC081 && costOf t == 3) = true := by decide +kernel

/-- 95 B5. -/
theorem test_bvs : ends (status (code [0x70, 0x7F]) 0x64)
    (fun t => t.pc == 0xC081 && costOf t == 3) = true := by decide +kernel

/-- 95 J6. -/
theorem test_jmp_abs : ends (code [0x4C, 0x00, 0xC0])
    (fun t => t.pc == 0xC000 && costOf t == 3) = true := by decide +kernel

/-- 95 S5. -/
theorem test_jmp_ind_bug : ends (poke (poke (poke (code [0x6C, 0xFF, 0x02]) 0x02FF [0xFC]) 0x0200 [0xBA]) 0x0300 [0x11])
    (fun t => t.pc == 0xBAFC && costOf t == 5) = true := by decide +kernel

/-- 95 J1. -/
theorem test_jsr_wrap : ends { code [0x20, 0x34, 0x12] with sp := 0x01 }
    (fun t => t.peek 0x0101 == some 0xC0 && t.peek 0x0100 == some 0x02 && t.sp == 0xFF && t.pc == 0x1234 && costOf t == 6) = true := by decide +kernel

/-- 95 J2. -/
theorem test_rts_wrap : ends (poke (code [0x60]) 0x01FE [0xFF, 0xFF])
    (fun t => t.pc == 0x0000 && t.sp == 0xFF && costOf t == 6) = true := by decide +kernel

/-- 95 J3. -/
theorem test_rti : ends { poke (code [0x40]) 0x01FB [0x24, 0x00, 0xC1] with sp := 0xFA }
    (fun t => pOf t == 0x24 && t.pc == 0xC100 && t.sp == 0xFD && costOf t == 6) = true := by decide +kernel

/-- 95 J4. -/
theorem test_rti_ignored_bits : ends { poke (code [0x40]) 0x01FB [0xFF, 0x00, 0xC1] with sp := 0xFA }
    (fun t => pOf t == 0xEF && t.pc == 0xC100) = true := by decide +kernel

/-- 95 J5. -/
theorem test_brk : ends (status (poke (code [0x00]) 0xFFFE [0x00, 0xC1]) 0xE3)
    (fun t => t.peek 0x01FD == some 0xC0 && t.peek 0x01FC == some 0x02 && t.peek 0x01FB == some 0xF3 && t.sp == 0xFA && pOf t == 0xE7 && t.pc == 0xC100 && costOf t == 7) = true := by decide +kernel

/-- R213, R262 b: where the vector cannot be read, BRK's three pushes, SP and I stay as written, no cycle is credited and the
mark holds the first fault. -/
theorem test_brk_fault_keeps_pushes :
    (let t := advance (status (shortCart [0x00]) 0xE3)
     t.peek 0x01FD == some 0xC0 && t.peek 0x01FC == some 0x02 && t.peek 0x01FB == some 0xF3 && t.sp == 0xFA &&
     t.flags.i && t.cycles == 7 && t.faultMark == some (.configError 0x3FFE)) = true := by decide +kernel

/-! ### Flags and NOP (47) -/

/-- 95 section 2.7. -/
theorem test_clc : ends (status (code [0x18]) 0x25)
    (fun t => pOf t == 0x24 && t.pc == 0xC001 && costOf t == 2) = true := by decide +kernel

/-- 95 section 2.7. -/
theorem test_sec : ends (status (code [0x38]) 0x24)
    (fun t => pOf t == 0x25 && t.pc == 0xC001 && costOf t == 2) = true := by decide +kernel

/-- 95 section 2.7. -/
theorem test_cli : ends (status (code [0x58]) 0x24)
    (fun t => pOf t == 0x20 && t.pc == 0xC001 && costOf t == 2) = true := by decide +kernel

/-- 95 section 2.7. -/
theorem test_sei : ends (status (code [0x78]) 0x20)
    (fun t => pOf t == 0x24 && t.pc == 0xC001 && costOf t == 2) = true := by decide +kernel

/-- 95 section 2.7. -/
theorem test_cld : ends (status (code [0xD8]) 0x2C)
    (fun t => pOf t == 0x24 && t.pc == 0xC001 && costOf t == 2) = true := by decide +kernel

/-- 95 section 2.7. -/
theorem test_sed : ends (status (code [0xF8]) 0x24)
    (fun t => pOf t == 0x2C && t.pc == 0xC001 && costOf t == 2) = true := by decide +kernel

/-- 95 section 2.7. -/
theorem test_clv : ends (status (code [0xB8]) 0x64)
    (fun t => pOf t == 0x24 && t.pc == 0xC001 && costOf t == 2) = true := by decide +kernel

/-- 95 section 2.7. -/
theorem test_nop : ends (status (code [0xEA]) 0xE7)
    (fun t => pOf t == 0xE7 && t.pc == 0xC001 && costOf t == 2) = true := by decide +kernel

/-! ### Unofficial (48) -/

/-- 95 U2. -/
theorem test_nop_imm : ends (code [0x80, 0xFF])
    (fun t => t.pc == 0xC002 && costOf t == 2) = true := by decide +kernel

/-- 95 U4. -/
theorem test_nop_absx_cross : ends { code [0x1C, 0xFF, 0x02] with x := 0x01 }
    (fun t => t.pc == 0xC003 && costOf t == 5) = true := by decide +kernel

/-- 95 U5. -/
theorem test_lax : ends (poke (code [0xA7, 0x10]) 0x0010 [0x80])
    (fun t => t.a == 0x80 && t.x == 0x80 && pOf t == 0xA4 && costOf t == 3) = true := by decide +kernel

/-- 95 U6. -/
theorem test_lax_indy_cross : ends { poke (code [0xB3, 0x10]) 0x0010 [0xF8, 0x02] with y := 0x10, a := 0x01, x := 0x01 }
    (fun t => t.a == 0x00 && t.x == 0x00 && t.flags.z == true && costOf t == 6) = true := by decide +kernel

/-- 95 U7. -/
theorem test_sax : ends { code [0x87, 0x10] with a := 0xF0, x := 0x3C }
    (fun t => t.peek 0x0010 == some 0x30 && pOf t == 0x24 && costOf t == 3) = true := by decide +kernel

/-- 95 U9. -/
theorem test_dcp : ends { poke (code [0xC7, 0x10]) 0x0010 [0x11] with a := 0x10 }
    (fun t => t.peek 0x0010 == some 0x10 && pOf t == 0x27 && costOf t == 5) = true := by decide +kernel

/-- 95 U10. -/
theorem test_dcp_absx : ends { code [0xDF, 0xFF, 0x02] with a := 0x40, x := 0x01 }
    (fun t => t.peek 0x0300 == some 0xFF && pOf t == 0x24 && costOf t == 7) = true := by decide +kernel

/-- 95 U11. -/
theorem test_isb : ends { status (poke (code [0xE7, 0x10]) 0x0010 [0x0F]) 0x25 with a := 0x20 }
    (fun t => t.peek 0x0010 == some 0x10 && t.a == 0x10 && pOf t == 0x25 && costOf t == 5) = true := by decide +kernel

/-- 95 U13. -/
theorem test_slo : ends { poke (code [0x07, 0x10]) 0x0010 [0x81] with a := 0x01 }
    (fun t => t.peek 0x0010 == some 0x02 && t.a == 0x03 && pOf t == 0x25 && costOf t == 5) = true := by decide +kernel

/-- 95 U14. -/
theorem test_slo_indx : ends { poke (poke (code [0x03, 0x20]) 0x0022 [0x00, 0x03]) 0x0300 [0x40] with x := 0x02 }
    (fun t => t.peek 0x0300 == some 0x80 && t.a == 0x80 && pOf t == 0xA4 && costOf t == 8) = true := by decide +kernel

/-- 95 U16. -/
theorem test_rla : ends { status (poke (code [0x27, 0x10]) 0x0010 [0x07]) 0x25 with a := 0x0F }
    (fun t => t.peek 0x0010 == some 0x0F && t.a == 0x0F && pOf t == 0x24) = true := by decide +kernel

/-- 95 U17. -/
theorem test_sre : ends { poke (code [0x47, 0x10]) 0x0010 [0x03] with a := 0xF0 }
    (fun t => t.peek 0x0010 == some 0x01 && t.a == 0xF1 && pOf t == 0xA5 && costOf t == 5) = true := by decide +kernel

/-- 95 U19. -/
theorem test_rra : ends { poke (code [0x67, 0x10]) 0x0010 [0x03] with a := 0x10 }
    (fun t => t.peek 0x0010 == some 0x01 && t.a == 0x12 && pOf t == 0x24 && costOf t == 5) = true := by decide +kernel

/-- 95 U20. -/
theorem test_rra_overflow : ends { poke (code [0x6F, 0x00, 0x03]) 0x0300 [0x02] with a := 0x7F }
    (fun t => t.peek 0x0300 == some 0x01 && t.a == 0x80 && pOf t == 0xE4 && costOf t == 6) = true := by decide +kernel

/-- 95 U21. -/
theorem test_jam : faults (code [0x02]) (.unknownOpcode 0xC000 0x02) = true := by decide +kernel

/-- 95 U22. -/
theorem test_xaa : faults (code [0x8B]) (.unknownOpcode 0xC000 0x8B) = true := by decide +kernel

/-! ### Reset (70) -/

/-- 95 S1. -/
theorem test_reset : State.reset.snapshot =
    { pc := 0xC000, a := 0x00, x := 0x00, y := 0x00, p := 0x24, sp := 0xFD, cycles := 7 } := by decide +kernel

/-- 95 S1, RESET_PC_MODE = Vector: a 16 KB image with 0x04, 0xC0 at offsets 0x3FFC, 0x3FFD. -/
theorem test_reset_vector :
    (match powerOn { Params.default with resetPcMode := .vector } { size := 0x4000, bytes := [(0x3FFC, 0x04), (0x3FFD, 0xC0)] }
        [] [] with
      | .ok s => s.pc == 0xC004 && pOf s == 0x24 && s.sp == 0xFD
      | .error _ => false) = true := by decide +kernel

/-! ## Witnesses

`witness_<Name>` meets the hypotheses of Obligations.<Name>. A statement without hypotheses has none. -/

/-- The operand of i is supplied at s. -/
def Supplied (i : Instr) (s : State) : Prop := ∃ m crossed s1, Supplies i s m crossed s1

/-- The same with a page cross. -/
def SuppliedAcross (i : Instr) (s : State) : Prop := ∃ m s1, Supplies i s m true s1

/-- The read of the operand of i faults at s. -/
def ReadFails (i : Instr) (s : State) : Prop := ∃ k, ReadFaults i s k

/-- i reads and may write its effective address at s. -/
def Modifiable (i : Instr) (s : State) : Prop :=
  ∃ ea crossed s1 m s2, Addresses i s ea crossed s1 ∧ memRead ea s1 = .ok (m, s2) ∧ writable s ea = true

/-- i reads its effective address at s, and no byte can be written there. -/
def WriteFails (i : Instr) (s : State) : Prop :=
  ∃ ea crossed s1 m s2, Addresses i s ea crossed s1 ∧ memRead ea s1 = .ok (m, s2) ∧ ∀ r, ∃ k, Fails (memWrite ea r s2) k

/-- Instruction i completes at s. -/
def Completes (i : Instr) (s : State) : Prop := ∃ t, exec i s = .next t

/-- The step completes at s. -/
def Steps (s : State) : Prop := ∃ t, step s = .next t

/-- An outcome that is a next state. -/
def isNext : Host.Outcome State Fault Refusal → Bool
  | .next _ => true
  | .fault _ => false
  | .refused _ => false

theorem exists_next {o : Host.Outcome State Fault Refusal} (h : isNext o = true) : ∃ t, o = .next t := by
  cases o with
  | next t => exact ⟨t, rfl⟩
  | fault _ => cases h
  | refused _ => cases h

theorem supplied_imm (i : Instr) (s : State) (nn : Byte) (h : i.row.operand = .imm nn) : Supplied i s :=
  ⟨nn, false, _, .inl (by rw [h]; rfl)⟩

theorem reset_inv : State.reset.Inv where
  ram_wf := by decide
  ram_below := by decide
  apu_wf := by decide
  apu_below := by decide
  cart_wf := by rintro c ⟨⟩; decide

/-- The bytes of LDA abs, with one byte after them. -/
theorem witness_EncodeOfDecode : decode [0xAD, 0x34, 0x12, 0xFF] = .ok (.ldaAbs 0x1234, [0xFF]) := by decide +kernel

/-- An unimplemented byte at PC. -/
theorem witness_UnimplementedBytesFault : Instr.unimplemented02.row.implemented = false ∧ (code [0x02]).faultMark = none ∧
    memRead (code [0x02]).pc (code [0x02]) = .ok (Instr.unimplemented02.row.opcode, code [0x02]) :=
  ⟨rfl, rfl, memRead_of_peek (by decide +kernel)⟩

/-- Three bytes that wrap from 0xFFFF to 0x0000. -/
theorem witness_StepRunsDecodedInstruction :
    let s := { placeBytes State.reset 0xFFFF [0xAD, 0x34, 0x12] with pc := 0xFFFF }
    s.faultMark = none ∧ decode [0xAD, 0x34, 0x12] = .ok (.ldaAbs 0x1234, []) ∧
    ∀ k (h : k < [0xAD, 0x34, (0x12 : Byte)].length),
      s.peek (s.pc + BitVec.ofNat 16 k) = some [0xAD, 0x34, (0x12 : Byte)][k] := by decide +kernel

/-- An opcode in the last RAM mirror, its operand byte fetched from the first PPU register. -/
theorem witness_StepRunsDecodedInstruction_ppu :
    let s := { poke State.reset 0x1FFF [0xA9] with pc := 0x1FFF }
    ∃ v t, s.faultMark = none ∧ decode [0xA9, v] = .ok (.ldaImm v, []) ∧ FetchesBytes s.pc [0xA9, v] s t ∧
      t.ppuLog = [.read 7 0 v] :=
  ⟨_, _, rfl, rfl, ⟨_, rfl, _, rfl, rfl⟩, rfl⟩

/-- A second byte just past the last APU cell, a third byte there, and a second byte past the end of the image. -/
theorem witness_OpcodeFetchFaults_operand :
    let s := lastApu [0xA9]
    let t := lastApu [0xAD, 0x34]
    let u := shortCart [0xA9]
    (FetchesBytes s.pc [0xA9] s s ∧ (Instr.ldaImm 0x00).row.opcode = 0xA9 ∧ 1 < (Instr.ldaImm 0x00).length ∧
      s.pc + BitVec.ofNat 16 1 = 0x4018) ∧
    (FetchesBytes t.pc [0xAD, 0x34] t t ∧ (Instr.ldaAbs 0x0000).row.opcode = 0xAD ∧ 2 < (Instr.ldaAbs 0x0000).length ∧
      t.pc + BitVec.ofNat 16 2 = 0x4018) ∧
    FetchesBytes u.pc [0xA9] u u ∧ u.target (u.pc + BitVec.ofNat 16 1) = .prg 1 ∧ readPRG u.cart 1 = none :=
  ⟨⟨fetches_of_peek _ _ (by decide +kernel), by decide +kernel⟩, ⟨fetches_of_peek _ _ (by decide +kernel), by decide +kernel⟩,
    fetches_of_peek _ _ (by decide +kernel), by decide +kernel⟩

/-- Both ends of the unmapped range, and a cartridge that is absent or too small. -/
theorem witness_OpcodeFetchFaults :
    0x4018 ≤ (0x4018 : Word).toNat ∧ (0x7FFF : Word).toNat ≤ 0x7FFF ∧ State.reset.faultMark = none ∧
    ({ State.reset with cart := none } : State).target 0xC000 = .prg 0 ∧ readPRG none 0 = none ∧
    readPRG (some { size := 1, bytes := [] }) 1 = none := by decide +kernel

theorem witness_FaultMarkIsFinal :
    ({ State.reset with faultMark := some (.unmappedAddress 0x6000 .write) } : State).faultMark =
      some (.unmappedAddress 0x6000 .write) ∧
    (∃ f, step (code [0x02]) = .fault f) ∧ Steps (code [0xEA]) :=
  ⟨rfl, ⟨_, rfl⟩, exists_next (by decide +kernel)⟩

/-- A reset from listed contents, with the fixed PC and with the vector. -/
theorem witness_ResetMeetsInvariant :
    let ram : Memory := [(0, 0x01), (0x7FF, 0xFF)]
    let apu : Memory := [(0x17, 0x40)]
    let cart : Cartridge := { size := 0x4000, bytes := [(0x3FFC, 0x04), (0x3FFD, 0xC0)] }
    ram.wf ∧ ram.below Config.ramSize ∧ apu.wf ∧ apu.below Config.apuSize ∧ cart.bytes.wf ∧ cart.bytes.below cart.size ∧
    (powerOn Params.default cart ram apu).isOk = true ∧
    (powerOn { Params.default with resetPcMode := .vector } cart ram apu).isOk = true := by decide +kernel

theorem witness_StepKeepsInvariant : State.reset.Inv ∧ Steps State.reset := ⟨reset_inv, exists_next (by decide +kernel)⟩

theorem witness_StepKeepsRomAndParameters : Steps State.reset := exists_next (by decide +kernel)

/-- A step that reads a PPU register. -/
theorem witness_PpuRecordOnlyGrows : Steps (code [0xAD, 0x02, 0x20]) := exists_next (by decide +kernel)

theorem witness_UnsupportedModeUnreachable : State.reset.faultMark = none := rfl

theorem witness_StepCostsTwoToEight : Steps (code [0xEA]) ∧ Steps (code [0x03, 0x20]) :=
  ⟨exists_next (by decide +kernel), exists_next (by decide +kernel)⟩

theorem witness_ResetLeavesSpecState :
    Params.default.resetPcMode = .fixed 0xC000 ∧
    (powerOn Params.default .blank [] []).isOk = true ∧
    { Params.default with resetPcMode := .vector }.resetPcMode = .vector ∧
    readPRG (some .blank) (0x3FFC + 0) = some 0x00 ∧ readPRG (some .blank) (0x3FFD + 0) = some 0x00 ∧
    readPRG (some { size := 0x3FFC, bytes := [] }) (0x3FFC + 0) = none ∧
    readPRG (some { size := 0x3FFD, bytes := [] }) (0x3FFC + 0) = some 0x00 ∧
    readPRG (some { size := 0x3FFD, bytes := [] }) (0x3FFD + 0) = none := by decide +kernel

/-- The last address of each row of the table and the first of the next. -/
theorem witness_BusFollowsAddressTable :
    ([0x1FFF, 0x2000, 0x3FFF, 0x4000, 0x4017, 0x4018, 0x7FFF, 0x8000, 0xBFFF, 0xC000, 0xFFFF] : List Word).map
      State.reset.target =
    [.ram 0x7FF, .ppu 0, .ppu 7, .apu 0, .apu 0x17, .unmapped, .unmapped, .prg 0, .prg 0x3FFF, .prg 0, .prg 0x3FFF] := by
  decide +kernel

theorem witness_RamMirrorsShareCells :
    (0x1FFF : Word).toNat ≤ 0x1FFF ∧ (0x07FF : Word).toNat % 0x800 = (0x1FFF : Word).toNat % 0x800 ∧
    ¬((0x2000 : Word).toNat ≤ 0x1FFF ∧ (0x2000 : Word).toNat % 0x800 = (0x1FFF : Word).toNat % 0x800) := by decide +kernel

theorem witness_ApuCellsReadBack :
    0x4000 ≤ (0x4000 : Word).toNat ∧ (0x4017 : Word).toNat ≤ 0x4017 ∧ (0x4018 : Word) ≠ 0x4017 := by decide +kernel

theorem witness_PpuAccessesAreEvents :
    0x2000 ≤ (0x2000 : Word).toNat ∧ (0x3FFF : Word).toNat ≤ 0x3FFF := by decide +kernel

theorem witness_PrgBanks : 0x3FFF < 0x4000 ∧ State.reset.params.prgUpperBase = 0 := by decide +kernel

theorem witness_PointerReadsWrap : loByte 0x10FE ≠ 0xFF ∧ loByte 0x10FF = 0xFF := by decide +kernel

/-- Pushes with the stack pointer at its wrap. -/
theorem witness_StackPrimitives :
    (∃ t, push 0x33 { State.reset with sp := 0x00 } = .ok ((), t)) ∧
    ∃ t, push16 0x1234 { State.reset with sp := 0x00 } = .ok ((), t) := ⟨⟨_, rfl⟩, _, rfl⟩

/-- A pointer at the end of a page, and the ends of the unmapped range. -/
theorem witness_PointerModesResolve :
    State.reset.peek 0x02FF = some 0x00 ∧
    State.reset.peek (BitVec.ofNat 16 (0x02FF / 0x100 * 0x100 + (0x02FF + 1) % 0x100)) = some 0x00 ∧
    0x4018 ≤ (0x4018 : Word).toNat ∧ (0x7FFF : Word).toNat ≤ 0x7FFF := by decide +kernel

theorem witness_LdaLoadsA :
    Supplied (.ldaImm 0x80) .reset ∧
    Supplied (.ldaAbs 0x1FFF) .reset ∧
    SuppliedAcross (.ldaAbsx 0x02FF) { State.reset with x := 0x01, y := 0x01 } ∧
    ReadFails (.ldaAbs 0x4018) .reset ∧
    ReadFails (.ldaAbs 0x7FFF) .reset :=
  ⟨supplied_imm _ _ _ rfl,
    ⟨_, _, _, .inr ⟨_, _, rfl, rfl⟩⟩,
    ⟨_, _, .inr ⟨_, _, rfl, rfl⟩⟩,
    ⟨_, .inr ⟨_, _, _, rfl, _, rfl⟩⟩,
    ⟨_, .inr ⟨_, _, _, rfl, _, rfl⟩⟩⟩

theorem witness_LdxLdyLoadIndexRegisters :
    Supplied (.ldxImm 0x80) .reset ∧
    Supplied (.ldyImm 0x80) .reset ∧
    Supplied (.ldxAbs 0x1FFF) .reset ∧
    Supplied (.ldyAbs 0x1FFF) .reset ∧
    SuppliedAcross (.ldxAbsy 0x02FF) { State.reset with x := 0x01, y := 0x01 } ∧
    SuppliedAcross (.ldyAbsx 0x02FF) { State.reset with x := 0x01, y := 0x01 } ∧
    ReadFails (.ldxAbs 0x4018) .reset ∧
    ReadFails (.ldxAbs 0x7FFF) .reset ∧
    ReadFails (.ldyAbs 0x4018) .reset ∧
    ReadFails (.ldyAbs 0x7FFF) .reset :=
  ⟨supplied_imm _ _ _ rfl,
    supplied_imm _ _ _ rfl,
    ⟨_, _, _, .inr ⟨_, _, rfl, rfl⟩⟩,
    ⟨_, _, _, .inr ⟨_, _, rfl, rfl⟩⟩,
    ⟨_, _, .inr ⟨_, _, rfl, rfl⟩⟩,
    ⟨_, _, .inr ⟨_, _, rfl, rfl⟩⟩,
    ⟨_, .inr ⟨_, _, _, rfl, _, rfl⟩⟩,
    ⟨_, .inr ⟨_, _, _, rfl, _, rfl⟩⟩,
    ⟨_, .inr ⟨_, _, _, rfl, _, rfl⟩⟩,
    ⟨_, .inr ⟨_, _, _, rfl, _, rfl⟩⟩⟩

theorem witness_AdcAddsWithCarry :
    Supplied (.adcImm 0x80) .reset ∧
    Supplied (.adcAbs 0x1FFF) .reset ∧
    SuppliedAcross (.adcAbsx 0x02FF) { State.reset with x := 0x01, y := 0x01 } ∧
    ReadFails (.adcAbs 0x4018) .reset ∧
    ReadFails (.adcAbs 0x7FFF) .reset :=
  ⟨supplied_imm _ _ _ rfl,
    ⟨_, _, _, .inr ⟨_, _, rfl, rfl⟩⟩,
    ⟨_, _, .inr ⟨_, _, rfl, rfl⟩⟩,
    ⟨_, .inr ⟨_, _, _, rfl, _, rfl⟩⟩,
    ⟨_, .inr ⟨_, _, _, rfl, _, rfl⟩⟩⟩

theorem witness_SbcSubtractsWithBorrow :
    Supplied (.sbcImm 0x80) .reset ∧
    Supplied (.sbcImmEB 0x80) .reset ∧
    Supplied (.sbcAbs 0x1FFF) .reset ∧
    SuppliedAcross (.sbcAbsy 0x02FF) { State.reset with x := 0x01, y := 0x01 } ∧
    ReadFails (.sbcAbs 0x4018) .reset ∧
    ReadFails (.sbcAbs 0x7FFF) .reset :=
  ⟨supplied_imm _ _ _ rfl,
    supplied_imm _ _ _ rfl,
    ⟨_, _, _, .inr ⟨_, _, rfl, rfl⟩⟩,
    ⟨_, _, .inr ⟨_, _, rfl, rfl⟩⟩,
    ⟨_, .inr ⟨_, _, _, rfl, _, rfl⟩⟩,
    ⟨_, .inr ⟨_, _, _, rfl, _, rfl⟩⟩⟩

theorem witness_LogicCombinesWithA :
    Supplied (.andImm 0x80) .reset ∧
    Supplied (.oraImm 0x80) .reset ∧
    Supplied (.eorImm 0x80) .reset ∧
    Supplied (.andAbs 0x1FFF) .reset ∧
    Supplied (.oraAbs 0x1FFF) .reset ∧
    Supplied (.eorAbs 0x1FFF) .reset ∧
    SuppliedAcross (.andAbsx 0x02FF) { State.reset with x := 0x01, y := 0x01 } ∧
    ReadFails (.andAbs 0x4018) .reset ∧
    ReadFails (.andAbs 0x7FFF) .reset ∧
    ReadFails (.oraAbs 0x4018) .reset ∧
    ReadFails (.oraAbs 0x7FFF) .reset ∧
    ReadFails (.eorAbs 0x4018) .reset ∧
    ReadFails (.eorAbs 0x7FFF) .reset :=
  ⟨supplied_imm _ _ _ rfl,
    supplied_imm _ _ _ rfl,
    supplied_imm _ _ _ rfl,
    ⟨_, _, _, .inr ⟨_, _, rfl, rfl⟩⟩,
    ⟨_, _, _, .inr ⟨_, _, rfl, rfl⟩⟩,
    ⟨_, _, _, .inr ⟨_, _, rfl, rfl⟩⟩,
    ⟨_, _, .inr ⟨_, _, rfl, rfl⟩⟩,
    ⟨_, .inr ⟨_, _, _, rfl, _, rfl⟩⟩,
    ⟨_, .inr ⟨_, _, _, rfl, _, rfl⟩⟩,
    ⟨_, .inr ⟨_, _, _, rfl, _, rfl⟩⟩,
    ⟨_, .inr ⟨_, _, _, rfl, _, rfl⟩⟩,
    ⟨_, .inr ⟨_, _, _, rfl, _, rfl⟩⟩,
    ⟨_, .inr ⟨_, _, _, rfl, _, rfl⟩⟩⟩

theorem witness_BitTestsMemory :
    Supplied (.bitZp 0xFF) .reset ∧
    Supplied (.bitAbs 0x1FFF) .reset ∧
    ReadFails (.bitAbs 0x4018) .reset ∧
    ReadFails (.bitAbs 0x7FFF) .reset :=
  ⟨⟨_, _, _, .inr ⟨_, _, rfl, rfl⟩⟩,
    ⟨_, _, _, .inr ⟨_, _, rfl, rfl⟩⟩,
    ⟨_, .inr ⟨_, _, _, rfl, _, rfl⟩⟩,
    ⟨_, .inr ⟨_, _, _, rfl, _, rfl⟩⟩⟩

theorem witness_ComparesSetFlags :
    Supplied (.cmpImm 0x80) .reset ∧
    Supplied (.cpxImm 0x80) .reset ∧
    Supplied (.cpyImm 0x80) .reset ∧
    Supplied (.cmpAbs 0x1FFF) .reset ∧
    Supplied (.cpxAbs 0x1FFF) .reset ∧
    Supplied (.cpyAbs 0x1FFF) .reset ∧
    SuppliedAcross (.cmpAbsx 0x02FF) { State.reset with x := 0x01, y := 0x01 } ∧
    ReadFails (.cmpAbs 0x4018) .reset ∧
    ReadFails (.cmpAbs 0x7FFF) .reset ∧
    ReadFails (.cpxAbs 0x4018) .reset ∧
    ReadFails (.cpxAbs 0x7FFF) .reset ∧
    ReadFails (.cpyAbs 0x4018) .reset ∧
    ReadFails (.cpyAbs 0x7FFF) .reset :=
  ⟨supplied_imm _ _ _ rfl,
    supplied_imm _ _ _ rfl,
    supplied_imm _ _ _ rfl,
    ⟨_, _, _, .inr ⟨_, _, rfl, rfl⟩⟩,
    ⟨_, _, _, .inr ⟨_, _, rfl, rfl⟩⟩,
    ⟨_, _, _, .inr ⟨_, _, rfl, rfl⟩⟩,
    ⟨_, _, .inr ⟨_, _, rfl, rfl⟩⟩,
    ⟨_, .inr ⟨_, _, _, rfl, _, rfl⟩⟩,
    ⟨_, .inr ⟨_, _, _, rfl, _, rfl⟩⟩,
    ⟨_, .inr ⟨_, _, _, rfl, _, rfl⟩⟩,
    ⟨_, .inr ⟨_, _, _, rfl, _, rfl⟩⟩,
    ⟨_, .inr ⟨_, _, _, rfl, _, rfl⟩⟩,
    ⟨_, .inr ⟨_, _, _, rfl, _, rfl⟩⟩⟩

theorem witness_OperandNopsOnlyRead :
    Supplied (.nopImm80 0xFF) .reset ∧
    Supplied (.nopAbs 0x1FFF) .reset ∧
    SuppliedAcross (.nopAbsx1C 0x02FF) { State.reset with x := 0x01, y := 0x01 } ∧
    ReadFails (.nopAbs 0x4018) .reset ∧
    ReadFails (.nopAbs 0x7FFF) .reset :=
  ⟨supplied_imm _ _ _ rfl,
    ⟨_, _, _, .inr ⟨_, _, rfl, rfl⟩⟩,
    ⟨_, _, .inr ⟨_, _, rfl, rfl⟩⟩,
    ⟨_, .inr ⟨_, _, _, rfl, _, rfl⟩⟩,
    ⟨_, .inr ⟨_, _, _, rfl, _, rfl⟩⟩⟩

theorem witness_LaxLoadsAAndX :
    Supplied (.laxZp 0xFF) .reset ∧
    Supplied (.laxAbs 0x1FFF) .reset ∧
    SuppliedAcross (.laxAbsy 0x02FF) { State.reset with x := 0x01, y := 0x01 } ∧
    ReadFails (.laxAbs 0x4018) .reset ∧
    ReadFails (.laxAbs 0x7FFF) .reset :=
  ⟨⟨_, _, _, .inr ⟨_, _, rfl, rfl⟩⟩,
    ⟨_, _, _, .inr ⟨_, _, rfl, rfl⟩⟩,
    ⟨_, _, .inr ⟨_, _, rfl, rfl⟩⟩,
    ⟨_, .inr ⟨_, _, _, rfl, _, rfl⟩⟩,
    ⟨_, .inr ⟨_, _, _, rfl, _, rfl⟩⟩⟩

theorem witness_StoresWriteEA :
    (∃ ea c s1, Addresses (.staAbs 0x1FFF) .reset ea c s1 ∧ writable .reset ea = true) ∧
    (∃ ea c s1 k, Addresses (.staAbs 0x8000) .reset ea c s1 ∧ Fails (memWrite ea 0x00 s1) k) :=
  ⟨⟨_, _, _, rfl, rfl⟩, _, _, _, _, rfl, _, rfl⟩

theorem witness_PullsLoadFromStack :
    ({ State.reset with sp := 0xFF } : State).peek (BitVec.ofNat 16 (0x100 + ((0xFF : Byte) + 1).toNat)) = some 0x00 := by
  decide +kernel

theorem witness_IncDecUpdateMemory :
    Modifiable (.incAbs 0x1FFF) .reset ∧
    WriteFails (.incAbs 0x8000) .reset ∧
    ReadFails (.incAbs 0x4018) .reset ∧
    Modifiable (.decAbs 0x1FFF) .reset ∧
    WriteFails (.decAbs 0x8000) .reset ∧
    ReadFails (.decAbs 0x4018) .reset :=
  ⟨⟨_, _, _, _, _, rfl, rfl, rfl⟩,
    ⟨_, _, _, _, _, rfl, rfl, fun _ => ⟨_, _, rfl⟩⟩,
    ⟨_, .inr ⟨_, _, _, rfl, _, rfl⟩⟩,
    ⟨_, _, _, _, _, rfl, rfl, rfl⟩,
    ⟨_, _, _, _, _, rfl, rfl, fun _ => ⟨_, _, rfl⟩⟩,
    ⟨_, .inr ⟨_, _, _, rfl, _, rfl⟩⟩⟩

theorem witness_MemoryShifts :
    Modifiable (.aslAbs 0x1FFF) .reset ∧
    WriteFails (.aslAbs 0x8000) .reset ∧
    ReadFails (.aslAbs 0x4018) .reset ∧
    Modifiable (.lsrAbs 0x1FFF) .reset ∧
    WriteFails (.lsrAbs 0x8000) .reset ∧
    ReadFails (.lsrAbs 0x4018) .reset ∧
    Modifiable (.rolAbs 0x1FFF) .reset ∧
    WriteFails (.rolAbs 0x8000) .reset ∧
    ReadFails (.rolAbs 0x4018) .reset ∧
    Modifiable (.rorAbs 0x1FFF) .reset ∧
    WriteFails (.rorAbs 0x8000) .reset ∧
    ReadFails (.rorAbs 0x4018) .reset :=
  ⟨⟨_, _, _, _, _, rfl, rfl, rfl⟩,
    ⟨_, _, _, _, _, rfl, rfl, fun _ => ⟨_, _, rfl⟩⟩,
    ⟨_, .inr ⟨_, _, _, rfl, _, rfl⟩⟩,
    ⟨_, _, _, _, _, rfl, rfl, rfl⟩,
    ⟨_, _, _, _, _, rfl, rfl, fun _ => ⟨_, _, rfl⟩⟩,
    ⟨_, .inr ⟨_, _, _, rfl, _, rfl⟩⟩,
    ⟨_, _, _, _, _, rfl, rfl, rfl⟩,
    ⟨_, _, _, _, _, rfl, rfl, fun _ => ⟨_, _, rfl⟩⟩,
    ⟨_, .inr ⟨_, _, _, rfl, _, rfl⟩⟩,
    ⟨_, _, _, _, _, rfl, rfl, rfl⟩,
    ⟨_, _, _, _, _, rfl, rfl, fun _ => ⟨_, _, rfl⟩⟩,
    ⟨_, .inr ⟨_, _, _, rfl, _, rfl⟩⟩⟩

theorem witness_DcpDecrementsAndCompares :
    Modifiable (.dcpAbs 0x1FFF) .reset ∧
    WriteFails (.dcpAbs 0x8000) .reset ∧
    ReadFails (.dcpAbs 0x4018) .reset :=
  ⟨⟨_, _, _, _, _, rfl, rfl, rfl⟩,
    ⟨_, _, _, _, _, rfl, rfl, fun _ => ⟨_, _, rfl⟩⟩,
    ⟨_, .inr ⟨_, _, _, rfl, _, rfl⟩⟩⟩

theorem witness_IsbIncrementsAndSubtracts :
    Modifiable (.isbAbs 0x1FFF) .reset ∧
    WriteFails (.isbAbs 0x8000) .reset ∧
    ReadFails (.isbAbs 0x4018) .reset :=
  ⟨⟨_, _, _, _, _, rfl, rfl, rfl⟩,
    ⟨_, _, _, _, _, rfl, rfl, fun _ => ⟨_, _, rfl⟩⟩,
    ⟨_, .inr ⟨_, _, _, rfl, _, rfl⟩⟩⟩

theorem witness_ShiftCombinationsUpdateA :
    Modifiable (.sloAbs 0x1FFF) .reset ∧
    WriteFails (.sloAbs 0x8000) .reset ∧
    ReadFails (.sloAbs 0x4018) .reset ∧
    Modifiable (.rlaAbs 0x1FFF) .reset ∧
    WriteFails (.rlaAbs 0x8000) .reset ∧
    ReadFails (.rlaAbs 0x4018) .reset ∧
    Modifiable (.sreAbs 0x1FFF) .reset ∧
    WriteFails (.sreAbs 0x8000) .reset ∧
    ReadFails (.sreAbs 0x4018) .reset :=
  ⟨⟨_, _, _, _, _, rfl, rfl, rfl⟩,
    ⟨_, _, _, _, _, rfl, rfl, fun _ => ⟨_, _, rfl⟩⟩,
    ⟨_, .inr ⟨_, _, _, rfl, _, rfl⟩⟩,
    ⟨_, _, _, _, _, rfl, rfl, rfl⟩,
    ⟨_, _, _, _, _, rfl, rfl, fun _ => ⟨_, _, rfl⟩⟩,
    ⟨_, .inr ⟨_, _, _, rfl, _, rfl⟩⟩,
    ⟨_, _, _, _, _, rfl, rfl, rfl⟩,
    ⟨_, _, _, _, _, rfl, rfl, fun _ => ⟨_, _, rfl⟩⟩,
    ⟨_, .inr ⟨_, _, _, rfl, _, rfl⟩⟩⟩

theorem witness_RraRotatesAndAdds :
    Modifiable (.rraAbs 0x1FFF) .reset ∧
    WriteFails (.rraAbs 0x8000) .reset ∧
    ReadFails (.rraAbs 0x4018) .reset :=
  ⟨⟨_, _, _, _, _, rfl, rfl, rfl⟩,
    ⟨_, _, _, _, _, rfl, rfl, fun _ => ⟨_, _, rfl⟩⟩,
    ⟨_, .inr ⟨_, _, _, rfl, _, rfl⟩⟩⟩

/-- Both outcomes of a branch, in the page and across it. -/
theorem witness_BranchesFollowFlags :
    (0xBF82 : Word) = BitVec.ofInt 16 ((State.reset.pc + 2).toNat + (0x80 : Byte).toInt) ∧
    (0xC081 : Word) = BitVec.ofInt 16 ((State.reset.pc + 2).toNat + (0x7F : Byte).toInt) ∧
    (!State.reset.flags.c) = true ∧ State.reset.flags.c = false := by decide +kernel

theorem witness_JmpSetsPc :
    (∃ target s1, read16Bug 0x02FF .reset = .ok (target, s1)) ∧ ∃ k, Fails (read16Bug 0x7FFF .reset) k :=
  ⟨⟨_, _, rfl⟩, _, _, rfl⟩

/-- Pulls across the wrap of the stack pointer. -/
theorem witness_JsrCallsRtsReturns :
    let s := { State.reset with sp := 0xFE }
    s.peek (BitVec.ofNat 16 (0x100 + (s.sp + 1).toNat)) = some 0x00 ∧
    s.peek (BitVec.ofNat 16 (0x100 + (s.sp + 2).toNat)) = some 0x00 := by decide +kernel

theorem witness_RtiRestoresStatusAndPc :
    let s := { State.reset with sp := 0xFD }
    s.peek (BitVec.ofNat 16 (0x100 + (s.sp + 1).toNat)) = some 0x00 ∧
    s.peek (BitVec.ofNat 16 (0x100 + (s.sp + 2).toNat)) = some 0x00 ∧
    s.peek (BitVec.ofNat 16 (0x100 + (s.sp + 3).toNat)) = some 0x00 := by decide +kernel

/-- A cartridge that holds both vector bytes, one that ends before them, and one that ends between them. -/
theorem witness_BrkEntersHandler :
    readPRG State.reset.cart (0x3FFE + State.reset.params.prgUpperBase) = some 0x00 ∧
    readPRG State.reset.cart (0x3FFF + State.reset.params.prgUpperBase) = some 0x00 ∧
    readPRG (some { size := 0x3FFE, bytes := [] }) 0x3FFE = none ∧
    readPRG (some { size := 0x3FFF, bytes := [] }) 0x3FFE = some 0x00 ∧
    readPRG (some { size := 0x3FFF, bytes := [] }) 0x3FFF = none := by decide +kernel

/-- A completed instruction outside every list of writers, and one inside. -/
theorem witness_RegisterWriters : Completes .nop .reset ∧ Completes (.ldaImm 0x80) .reset ∧ Instr.nop.row.operand ≠ .acc :=
  ⟨exists_next (by decide +kernel), exists_next (by decide +kernel), by decide⟩

theorem witness_FlagWriters : Completes .nop .reset ∧ Completes (.staZp 0x10) .reset := ⟨exists_next (by decide +kernel), exists_next (by decide +kernel)⟩

theorem witness_NonStoringInstructionsKeepMemory :
    Completes (.ldaAbs 0x1FFF) .reset ∧ (Instr.ldaAbs 0x1FFF).row.access ≠ .write ∧ (Instr.ldaAbs 0x1FFF).row.access ≠ .rmw ∧
    (Instr.ldaAbs 0x1FFF).row.mnemonic ∉ ([.PHA, .PHP, .JSR, .BRK] : List Mnemonic) :=
  ⟨exists_next (by decide +kernel), by decide, by decide, by decide⟩

theorem witness_StoringInstructionsChangeOneCell :
    (Completes (.staAbs 0x1FFF) .reset ∧ (Instr.staAbs 0x1FFF).row.access = .write) ∧
    Completes (.incAbs 0x1FFF) .reset ∧ (Instr.incAbs 0x1FFF).row.access = .rmw :=
  ⟨⟨exists_next (by decide +kernel), rfl⟩, exists_next (by decide +kernel), rfl⟩

theorem witness_PushingInstructionsChangeStackSlots :
    (Completes .pha .reset ∧ Instr.pha.row.mnemonic = .PHA) ∧
    (Completes (.jsr 0x1234) .reset ∧ (Instr.jsr 0x1234).row.mnemonic = .JSR) ∧
    Completes .brk .reset ∧ Instr.brk.row.mnemonic = .BRK :=
  ⟨⟨exists_next (by decide +kernel), rfl⟩, ⟨exists_next (by decide +kernel), rfl⟩, exists_next (by decide +kernel), rfl⟩

theorem witness_OnlyControlTransfersRedirectPc :
    Completes (.ldaAbs 0x0000) { State.reset with pc := 0xFFFF } ∧
    (Instr.ldaAbs 0x0000).row.mnemonic ∉
      ([.BCC, .BCS, .BEQ, .BNE, .BMI, .BPL, .BVC, .BVS, .JMP, .JSR, .RTS, .RTI, .BRK] : List Mnemonic) :=
  ⟨exists_next (by decide +kernel), by decide⟩

theorem witness_ReturnsUndoCalls : Completes .brk .reset := exists_next (by decide +kernel)

end Sys2Proof.Tests
end

section
/-! ## Fields of the state, and the relation "the same but for these fields" -/

namespace Sys2Proof.Machine

/-- The parts of the state a frame speaks of: all of it but the record of PPU accesses, which every bus read may lengthen. -/
inductive StateField where
  | a | x | y | sp | pc
  | c | z | i | d | v | n
  | cycles | ram | apu | cart | params | faultMark
  deriving DecidableEq, Repr

/-- The two states agree on the field. -/
def StateField.Same (s t : State) : StateField → Prop
  | .a => t.a = s.a
  | .x => t.x = s.x
  | .y => t.y = s.y
  | .sp => t.sp = s.sp
  | .pc => t.pc = s.pc
  | .c => t.flags.c = s.flags.c
  | .z => t.flags.z = s.flags.z
  | .i => t.flags.i = s.flags.i
  | .d => t.flags.d = s.flags.d
  | .v => t.flags.v = s.flags.v
  | .n => t.flags.n = s.flags.n
  | .cycles => t.cycles = s.cycles
  | .ram => t.ram = s.ram
  | .apu => t.apu = s.apu
  | .cart => t.cart = s.cart
  | .params => t.params = s.params
  | .faultMark => t.faultMark = s.faultMark

theorem StateField.Same.refl (s : State) (f : StateField) : f.Same s s := by cases f <;> rfl

theorem StateField.Same.trans {s t u : State} {f : StateField} (h : f.Same s t) (h' : f.Same t u) : f.Same s u := by
  cases f <;> exact Eq.trans h' h

/-- The two states agree on every field outside W. -/
def SameBut (W : StateField → Prop) (s t : State) : Prop := ∀ f, ¬W f → f.Same s t

theorem SameBut.trans {W : StateField → Prop} {s t u : State} (h : SameBut W s t) (h' : SameBut W t u) : SameBut W s u :=
  fun f hf => (h f hf).trans (h' f hf)

theorem withLog_sameBut (W : StateField → Prop) (s : State) (l : List PpuEvent) : SameBut W s (s.withLog l) :=
  fun f _ => by cases f <;> rfl

/-- A write touches at most the two stores and the record of PPU accesses. -/
theorem memWrite_sameBut {W : StateField → Prop} (hr : W .ram) (ha : W .apu) (ea : Word) (b : Byte) (s t : State)
    (h : memWrite ea b s = .ok ((), t)) : SameBut W s t := by
  rw [memWrite_state h]
  intro f hf
  cases f
  case ram => exact absurd hr hf
  case apu => exact absurd ha hf
  all_goals rfl

/-! ## One rule per access class -/

/-- A relation between the state before and after that allows doing nothing, doing one thing after another, and PPU accesses:
what a frame or an invariant has to be, to be carried through the access classes of R115. -/
structure Carried (R : State → State → Prop) : Prop where
  refl : ∀ s, R s s
  trans : ∀ {s t u}, R s t → R t u → R s u
  withLog : ∀ s l, R s (s.withLog l)

theorem carried_sameBut (W : StateField → Prop) : Carried (SameBut W) where
  refl s f _ := StateField.Same.refl s f
  trans := SameBut.trans
  withLog := withLog_sameBut W

section Classes

variable {R : State → State → Prop} {bad : FaultKind} {tgt : Target} {s t : State} {n : Nat}

theorem impliedBody_rel {f : State → State} (hf : R s (f s)) (h : impliedBody bad f tgt s = .ok (n, t)) : R s t := by
  obtain ⟨-, rfl⟩ := impliedBody_ok h
  exact hf

theorem accessBody_rel {f : State → Bus Unit} (hf : ∀ u, f s = .ok ((), u) → R s u)
    (h : accessBody bad f tgt s = .ok (n, t)) : R s t :=
  hf t (accessBody_ok h).2

theorem readBody_rel (hR : Carried R) {f : Byte → State → State} (hf : ∀ m u, R u (f m u))
    (h : readBody bad f tgt s = .ok (n, t)) : R s t := by
  obtain ⟨-, m, s1, hs1, rfl, -⟩ := readBody_ok h
  have hlog : R s s1 := hs1 ▸ hR.withLog s _
  exact hR.trans hlog (hf m s1)

theorem writeBody_rel (hw : ∀ ea b u w, memWrite ea b u = .ok ((), w) → R u w) {b : State → Byte}
    (h : writeBody bad b tgt s = .ok (n, t)) : R s t := by
  obtain ⟨-, ea, -, h⟩ := writeBody_ok h
  exact hw _ _ _ _ h

theorem rmwBody_rel (hR : Carried R) (hw : ∀ ea b u w, memWrite ea b u = .ok ((), w) → R u w)
    {r : Byte → State → Byte} {post : Byte → State → State} (hp : ∀ m u, R u (post m u))
    (h : rmwBody bad r post tgt s = .ok (n, t)) : R s t := by
  obtain ⟨-, ea, m, s1, s2, -, hr, hwr, rfl⟩ := rmwBody_ok h
  have hlog : R s s1 := memRead_state hr ▸ hR.withLog s _
  exact hR.trans (hR.trans hlog (hw _ _ _ _ hwr)) (hp m s2)

theorem registerBody_rel {f : Byte → State → State} (hf : ∀ m u, R u (f m u))
    (h : registerBody bad f tgt s = .ok (n, t)) : R s t := by
  obtain ⟨-, rfl⟩ := registerBody_ok h
  exact hf _ _

theorem branchBody_rel (hR : Carried R) (hp : ∀ w, R s (s.setPC w)) {cond : State → Bool}
    (h : branchBody bad cond tgt s = .ok (n, t)) : R s t := by
  obtain ⟨-, ⟨rfl, -⟩ | ⟨w, -, rfl⟩⟩ := branchBody_ok h
  · exact hR.refl _
  · exact hp w

theorem jumpBody_rel {f : Word → State → Bus Unit} (hf : ∀ w u, f w s = .ok ((), u) → R s u)
    (h : jumpBody bad f tgt s = .ok (n, t)) : R s t := by
  obtain ⟨-, w, -, h⟩ := jumpBody_ok h
  exact hf w t h

end Classes

/-! ## What each instruction may write -/

section FlagFrames

variable (a m : Byte) (f : Flags)

@[simp] theorem addCore_i : (addCore a m f).2.i = f.i := rfl
@[simp] theorem addCore_d : (addCore a m f).2.d = f.d := rfl
@[simp] theorem subCore_i : (subCore a m f).2.i = f.i := rfl
@[simp] theorem subCore_d : (subCore a m f).2.d = f.d := rfl
@[simp] theorem compareFlags_i : (compareFlags a m f).i = f.i := rfl
@[simp] theorem compareFlags_d : (compareFlags a m f).d = f.d := rfl
@[simp] theorem compareFlags_v : (compareFlags a m f).v = f.v := rfl
@[simp] theorem bitTest_c : (bitTest a m f).c = f.c := rfl
@[simp] theorem bitTest_i : (bitTest a m f).i = f.i := rfl
@[simp] theorem bitTest_d : (bitTest a m f).d = f.d := rfl

end FlagFrames

/-- Whether the body of a mnemonic writes the byte at EA: the stores, and the read-modify-writes outside accumulator mode
(R115, R191). -/
def WritesEA (m : Mnemonic) (access : AccessClass) : Prop :=
  m ∈ ([.STA, .STX, .STY, .SAX, .INC, .DEC, .DCP, .ISB, .SLO, .RLA, .SRE, .RRA] : List Mnemonic) ∨
    m ∈ ([.ASL, .LSR, .ROL, .ROR] : List Mnemonic) ∧ access ≠ .register

/-- Whether the body of a mnemonic may write a field: the writers R20 to R24 and the table of R25 list, and for the stores the
instructions that write EA (R115 e, f) or push (R59). -/
def Writes (m : Mnemonic) (access : AccessClass) : StateField → Prop
  | .a => m ∈ ([.LDA, .PLA, .TXA, .TYA, .ADC, .SBC, .AND, .ORA, .EOR, .LAX, .ISB, .SLO, .RLA, .SRE, .RRA] : List Mnemonic) ∨
      access = .register
  | .x => m ∈ ([.LDX, .TAX, .TSX, .INX, .DEX, .LAX] : List Mnemonic)
  | .y => m ∈ ([.LDY, .TAY, .INY, .DEY] : List Mnemonic)
  | .sp => m ∈ ([.TXS, .PHA, .PHP, .PLA, .PLP, .JSR, .RTS, .RTI, .BRK] : List Mnemonic)
  | .pc => m ∈ ([.BCC, .BCS, .BEQ, .BNE, .BMI, .BPL, .BVC, .BVS, .JMP, .JSR, .RTS, .RTI, .BRK] : List Mnemonic)
  | .c => m ∈ ([.ADC, .SBC, .CMP, .CPX, .CPY, .ASL, .LSR, .ROL, .ROR, .CLC, .SEC, .PLP, .RTI, .DCP, .ISB, .SLO, .RLA, .SRE,
      .RRA] : List Mnemonic)
  | .z | .n => m ∈ ([.LDA, .LDX, .LDY, .TAX, .TAY, .TXA, .TYA, .TSX, .PLA, .ADC, .SBC, .AND, .ORA, .EOR, .BIT, .CMP, .CPX,
      .CPY, .INC, .DEC, .INX, .INY, .DEX, .DEY, .ASL, .LSR, .ROL, .ROR, .PLP, .RTI, .LAX, .DCP, .ISB, .SLO, .RLA, .SRE, .RRA] :
      List Mnemonic)
  | .i => m ∈ ([.SEI, .CLI, .PLP, .RTI, .BRK] : List Mnemonic)
  | .d => m ∈ ([.SED, .CLD, .PLP, .RTI] : List Mnemonic)
  | .v => m ∈ ([.ADC, .SBC, .BIT, .CLV, .PLP, .RTI, .ISB, .RRA] : List Mnemonic)
  | .ram => WritesEA m access ∨ m ∈ ([.PHA, .PHP, .JSR, .BRK] : List Mnemonic)
  | .apu => WritesEA m access
  | .cycles | .cart | .params | .faultMark => False

/-- A shift combination writes C and whatever its second half does (R230). -/
theorem shiftThen_sameBut (shift : Byte → Bool → Byte × Bool) {f : Byte → State → State} {W : StateField → Prop}
    (hc : W .c) (hf : ∀ m u, SameBut W u (f m u)) (m : Byte) (s : State) : SameBut W s (shiftThen shift f m s) := by
  have hcarry : SameBut W s (s.setCarry (shift m s.flags.c).2) := by
    intro g hg
    cases g
    case c => exact absurd hc hg
    all_goals rfl
  exact hcarry.trans (hf _ _)

/-- A completed body leaves every field it does not write as it was (R20 to R25, R115). -/
theorem bodyOf_sameBut {m : Mnemonic} {access : AccessClass} {bad : FaultKind} {tgt : Target} {s t : State} {n : Nat}
    (h : bodyOf m access bad tgt s = .ok (n, t)) : SameBut (Writes m access) s t := by
  have hC := carried_sameBut (Writes m access)
  cases m
  case LDA | LDX | LDY | LAX | AND | ORA | EOR | BIT | CMP | CPX | CPY | ADC | SBC =>
    refine readBody_rel hC (fun m u f => ?_) h
    cases f <;> simp [Writes, WritesEA, StateField.Same, loadA, loadX, loadY, laxEffect, andEffect, oraEffect, eorEffect,
      bitEffect, cmpEffect, cpxEffect, cpyEffect, adcEffect, sbcEffect]
  case TAX | TAY | TXA | TYA | TSX | TXS | INX | INY | DEX | DEY | CLC | SEC | CLI | SEI | CLD | SED | CLV =>
    refine impliedBody_rel (fun f => ?_) h
    cases f <;> simp [Writes, WritesEA, StateField.Same, taxEffect, tayEffect, txaEffect, tyaEffect, tsxEffect, txsEffect,
      inxEffect, inyEffect, dexEffect, deyEffect, clcEffect, secEffect, cliEffect, seiEffect, cldEffect, sedEffect, clvEffect]
  case NOP =>
    simp only [bodyOf] at h
    split at h
    · exact impliedBody_rel (hC.refl _) h
    · exact readBody_rel hC (fun _ u => hC.refl u) h
  case UNIMPLEMENTED => cases h
  case STA | STX | STY | SAX =>
    exact writeBody_rel (memWrite_sameBut (by simp [Writes, WritesEA]) (by simp [Writes, WritesEA])) h
  case INC | DEC | DCP | ISB =>
    refine rmwBody_rel hC (memWrite_sameBut (by simp [Writes, WritesEA]) (by simp [Writes, WritesEA]))
      (fun m u f => ?_) h
    cases f <;> simp [Writes, WritesEA, StateField.Same, incFlags, decFlags, dcpEffect, cmpEffect, isbEffect, sbcEffect]
  case SLO | RLA | SRE | RRA =>
    refine rmwBody_rel hC (memWrite_sameBut (by simp [Writes, WritesEA]) (by simp [Writes, WritesEA]))
      (shiftThen_sameBut _ (by simp [Writes]) fun m u f => ?_) h
    cases f <;> simp [Writes, WritesEA, StateField.Same, oraEffect, andEffect, eorEffect, adcEffect]
  case ASL | LSR | ROL | ROR =>
    by_cases hacc : access = .register
    · simp only [bodyOf, hacc, if_true] at h
      refine registerBody_rel (fun m u f => ?_) h
      cases f <;> simp [Writes, WritesEA, StateField.Same, hacc, shiftA]
    · simp only [bodyOf, hacc, if_false] at h
      refine rmwBody_rel hC (memWrite_sameBut (by simp [Writes, WritesEA, hacc]) (by simp [Writes, WritesEA, hacc]))
        (fun m u f => ?_) h
      cases f <;> simp [Writes, WritesEA, StateField.Same, hacc, shiftFlags]
  case BCC | BCS | BEQ | BNE | BMI | BPL | BVC | BVS =>
    refine branchBody_rel hC (fun w f => ?_) h
    cases f <;> simp [Writes, WritesEA, StateField.Same]
  case JMP | JSR =>
    refine jumpBody_rel (fun w u hu f => ?_) h
    simp only [jmpEffect, jsrEffect_eq, Except.ok.injEq, Prod.mk.injEq, true_and] at hu
    subst hu
    cases f <;> simp [Writes, WritesEA, StateField.Same]
  case BRK =>
    refine accessBody_rel (fun u hu f => ?_) h
    obtain ⟨w, l, rfl⟩ := enterBreak_ok hu
    cases f <;> simp [Writes, WritesEA, StateField.Same]
  case PHA | PHP | PLA | PLP | RTS | RTI =>
    refine accessBody_rel (fun u hu f => ?_) h
    simp only [phaEffect_eq, phpEffect_eq, plaEffect_eq, plpEffect_eq, rtsEffect_eq, rtiEffect, leaveBreak_eq,
      Except.ok.injEq, Prod.mk.injEq, true_and] at hu
    subst hu
    cases f <;> simp [Writes, WritesEA, StateField.Same]

end Sys2Proof.Machine
end

section
namespace Sys2Proof.Machine

/-! ## Completed instructions and steps -/

/-- A completed instruction leaves every field it does not write as it was, but for PC, which has passed the instruction's bytes,
and the cycle counter (R110 to R117). -/
theorem exec_same {i : Instr} {s t : State} (h : exec i s = .next t) (f : StateField) (hc : f ≠ .cycles)
    (hw : ¬Writes i.row.mnemonic i.row.access f) : f.Same (s.pastOperand i) t := by
  obtain ⟨-, r, s1, n, s2, hres, hbody, rfl⟩ := exec_next h
  have h1 : f.Same (s.pastOperand i) s1 := resolve_state hres ▸ withLog_sameBut _ _ _ f hw
  have h2 : f.Same s1 s2 := bodyOf_sameBut hbody f hw
  refine (h1.trans h2).trans ?_
  cases f
  case cycles => exact absurd rfl hc
  all_goals rfl

/-- A completed instruction keeps the cartridge, the parameters and the fault mark (R6, R36, R37). -/
theorem exec_fixed {i : Instr} {s t : State} (h : exec i s = .next t) :
    t.cart = s.cart ∧ t.params = s.params ∧ t.faultMark = s.faultMark :=
  ⟨exec_same h .cart (by decide) id, exec_same h .params (by decide) id, exec_same h .faultMark (by decide) id⟩

/-- So does a completed step: the fetch changes at most the record of PPU accesses. -/
theorem step_fixed {s t : State} (h : step s = .next t) :
    t.cart = s.cart ∧ t.params = s.params ∧ t.faultMark = s.faultMark := by
  obtain ⟨-, i, s1, hf, he⟩ := step_eq_next.mp h
  have hfix := exec_fixed he
  rw [fetch_state hf] at hfix
  exact hfix

/-- Class register is accumulator mode (R92, R115). -/
theorem operand_of_register {i : Instr} (hi : i.row.implemented = true) (ha : i.row.access = .register) :
    i.row.operand = .acc := by
  have hwf : i.row.wf = true := (Laws.RowSound.all i).1.trans hi
  simp only [Row.wf, Row.classFits, ha, AccessClass.modes, Bool.and_eq_true] at hwf
  obtain ⟨⟨-, hfit⟩, -⟩ := hwf
  cases ho : i.row.operand <;> simp [ho, Operand.mode] at hfit ⊢

/-- Settles O10: no instruction writes the cartridge or the parameters. -/
theorem stepKeepsRomAndParameters : Obligations.StepKeepsRomAndParameters := by
  intro s t h
  obtain ⟨hc, hp, -⟩ := step_fixed h
  exact ⟨hc, hp⟩

/-- Settles O52: the frame of the instruction at A, X, Y and SP; an accumulator shift writes A in the one mode the statement
leaves out. -/
theorem registerWriters : Obligations.RegisterWriters := by
  intro i s t h
  have hA : i.row.operand ≠ .acc → i.row.access ≠ .register := mt (operand_of_register (exec_next h).1)
  exact ⟨fun hm ho => exec_same h .a (by decide) (not_or.mpr ⟨hm, hA ho⟩), exec_same h .x (by decide),
    exec_same h .y (by decide), exec_same h .sp (by decide)⟩

/-- Settles O53: the frame of the instruction at each flag. -/
theorem flagWriters : Obligations.FlagWriters := by
  intro i s t h
  exact ⟨exec_same h .c (by decide), fun hm => ⟨exec_same h .z (by decide) hm, exec_same h .n (by decide) hm⟩,
    exec_same h .i (by decide), exec_same h .d (by decide), exec_same h .v (by decide)⟩

/-- Settles O57: the frame of the instruction at PC, which the operand fetch has moved past the instruction's bytes. -/
theorem onlyControlTransfersRedirectPc : Obligations.OnlyControlTransfersRedirectPc := by
  intro i s t h hm
  rw [(Laws.RowSound.all i).2]
  exact exec_same h .pc (by decide) hm

end Sys2Proof.Machine
end

section
namespace Sys2Proof.Machine

/-! ## The invariant of the stores -/

/-- From one state to the next the invariant is not lost. -/
def KeepsInv (s t : State) : Prop := s.Inv → t.Inv

theorem carried_keepsInv : Carried KeepsInv where
  refl _ := id
  trans h h' := h' ∘ h
  withLog _ _ hi := hi.congr rfl rfl rfl

/-- A change of registers and flags alone keeps the invariant. -/
theorem keepsInv_of_same {s t : State} (hr : t.ram = s.ram) (ha : t.apu = s.apu) (hc : t.cart = s.cart) :
    KeepsInv s t := fun hi => hi.congr hr ha hc

theorem memWrite_keepsInv (ea : Word) (b : Byte) (u w : State) (h : memWrite ea b u = .ok ((), w)) : KeepsInv u w :=
  memWrite_inv h

/-- A stack slot is a RAM cell, so a push keeps the invariant (R60). -/
theorem setStack_keepsInv (p b : Byte) (s : State) : KeepsInv s (s.setRam (0x100 + p.toNat) b) :=
  memWrite_keepsInv (stackAddr p) b s _ (by simp [memWrite, target_stackAddr])

/-- A completed body keeps the invariant: it leaves the stores alone, or its stores are bus writes (R42) or pushes (R59). -/
theorem bodyOf_keepsInv {m : Mnemonic} {access : AccessClass} {bad : FaultKind} {tgt : Target} {s t : State} {n : Nat}
    (h : bodyOf m access bad tgt s = .ok (n, t)) : KeepsInv s t := by
  have hsame := bodyOf_sameBut h
  cases m
  case STA | STX | STY | SAX => exact writeBody_rel memWrite_keepsInv h
  case INC | DEC | DCP | ISB | SLO | RLA | SRE | RRA =>
    refine rmwBody_rel carried_keepsInv memWrite_keepsInv (fun _ _ => ?_) h
    exact keepsInv_of_same rfl rfl rfl
  case ASL | LSR | ROL | ROR =>
    simp only [bodyOf] at h
    split at h
    · refine registerBody_rel (fun _ _ => ?_) h
      exact keepsInv_of_same rfl rfl rfl
    · refine rmwBody_rel carried_keepsInv memWrite_keepsInv (fun _ _ => ?_) h
      exact keepsInv_of_same rfl rfl rfl
  case PHA | PHP =>
    refine accessBody_rel (fun u hu hi => ?_) h
    simp only [phaEffect_eq, phpEffect_eq, Except.ok.injEq, Prod.mk.injEq, true_and] at hu
    subst hu
    exact (setStack_keepsInv s.sp _ s hi).congr rfl rfl rfl
  case JSR =>
    refine jumpBody_rel (fun w u hu hi => ?_) h
    rw [jsrEffect_eq] at hu
    cases hu
    exact (setStack_keepsInv (s.sp - 1) _ _ (setStack_keepsInv s.sp _ s hi)).congr rfl rfl rfl
  case BRK =>
    refine accessBody_rel (fun u hu hi => ?_) h
    obtain ⟨w, l, rfl⟩ := enterBreak_ok hu
    have hi2 := setStack_keepsInv (s.sp - 1) (loByte (s.pc + 1)) _ (setStack_keepsInv s.sp (hiByte (s.pc + 1)) s hi)
    exact (setStack_keepsInv (s.sp - 1 - 1) (s.flags.pack true) _ hi2).congr rfl rfl rfl
  all_goals
    exact keepsInv_of_same (hsame .ram (by simp [Writes, WritesEA])) (hsame .apu (by simp [Writes, WritesEA]))
      (hsame .cart id)

theorem exec_keepsInv {i : Instr} {s t : State} (h : exec i s = .next t) : KeepsInv s t := by
  obtain ⟨-, r, s1, n, s2, hres, hbody, rfl⟩ := exec_next h
  have h1 : KeepsInv s s1 := by
    rw [resolve_state hres]
    exact keepsInv_of_same rfl rfl rfl
  exact carried_keepsInv.trans (carried_keepsInv.trans h1 (bodyOf_keepsInv hbody)) (keepsInv_of_same rfl rfl rfl)

/-- Settles O9: the fetch leaves the stores alone and the instruction keeps them canonical. -/
theorem stepKeepsInvariant : Obligations.StepKeepsInvariant := by
  intro s t hi h
  obtain ⟨-, i, s1, hf, he⟩ := step_eq_next.mp h
  have hi1 : s1.Inv := by
    rw [fetch_state hf]
    exact hi.congr rfl rfl rfl
  exact exec_keepsInv he hi1

end Sys2Proof.Machine
end

section
namespace Sys2Proof.Machine

/-! ## The fault mark -/

theorem State.mark_of_none {s : State} (h : s.faultMark = none) (k : FaultKind) : (s.mark k).faultMark = some k := by
  simp [State.mark, h]

theorem State.mark_of_some {s : State} {k : FaultKind} (h : s.faultMark = some k) (k' : FaultKind) : s.mark k' = s := by
  simp [State.mark, h]

theorem step_of_mark {s : State} {k : FaultKind} (h : s.faultMark = some k) :
    step s = .fault { kind := k, left := s } :=
  step_eq_fault.mpr (.inl ⟨k, h, rfl⟩)

theorem advance_of_next {s t : State} (h : step s = .next t) : advance s = t := by simp [advance, h]

theorem advance_of_fault {s : State} {e : Fault} (h : step s = .fault e) : advance s = e.left.mark e.kind := by
  simp [advance, h]

/-- Settles O7: only `advance` writes the mark, and only where it is absent. -/
theorem faultMarkIsFinal : Obligations.FaultMarkIsFinal := by
  refine ⟨fun s k hk => ?_, fun s e hs he => ?_, fun s t h => ?_⟩
  · have hstep := step_of_mark hk
    exact ⟨hstep, (advance_of_fault hstep).trans (State.mark_of_some hk k)⟩
  · rw [advance_of_fault he]
    exact State.mark_of_none ((step_fault_mark he).trans hs) e.kind
  · have hs : s.faultMark = none := (step_eq_next.mp h).1
    obtain ⟨-, -, hm⟩ := step_fixed h
    exact ⟨hs, hm.trans hs, advance_of_next h⟩

end Sys2Proof.Machine
end

section
namespace Sys2Proof.Machine

/-! ## The status byte -/

theorem getElem_bit (b : Bool) (k : Nat) (hk : k < 8) : (bit b)[k] = (decide (k = 0) && b) := by
  cases b <;> simp [bit]

section Pack

variable (f : Flags) (b : Bool)

/-! The bits of P (R26, R27). -/

@[simp] theorem Flags.pack_bit0 : (f.pack b)[0] = f.c := by simp [Flags.pack, getElem_bit]
@[simp] theorem Flags.pack_bit1 : (f.pack b)[1] = f.z := by simp [Flags.pack, getElem_bit]
@[simp] theorem Flags.pack_bit2 : (f.pack b)[2] = f.i := by simp [Flags.pack, getElem_bit]
@[simp] theorem Flags.pack_bit3 : (f.pack b)[3] = f.d := by simp [Flags.pack, getElem_bit]
@[simp] theorem Flags.pack_bit4 : (f.pack b)[4] = b := by simp [Flags.pack, getElem_bit]
@[simp] theorem Flags.pack_bit5 : (f.pack b)[5] = true := by simp [Flags.pack]
@[simp] theorem Flags.pack_bit6 : (f.pack b)[6] = f.v := by simp [Flags.pack, getElem_bit]
@[simp] theorem Flags.pack_bit7 : (f.pack b)[7] = f.n := by simp [Flags.pack, getElem_bit]

/-- Unpacking a packed byte gives the flags back, whatever the break bit (R27 to R29). -/
@[simp] theorem Flags.unpack_pack : Flags.unpack (f.pack b) = f := by simp [Flags.unpack]

end Pack

/-- The live P after unpacking v: the flag bits of v, bit 4 clear and bit 5 set (R28; 95 S2). -/
theorem Flags.pack_unpack (v : Byte) : (Flags.unpack v).pack false = (v &&& 0xCF) ||| 0x20 := by
  apply BitVec.eq_of_getElem_eq
  intro k hk
  interval_cases k <;> simp [Flags.unpack]

/-- PHP pushes Pack(1) (R151). -/
theorem exec_php (s : State) : exec .php s = .next ({ s.pastOperand .php with
    sp := s.sp - 1, ram := s.ram.set (0x100 + s.sp.toNat) (s.flags.pack true) }.credit 3) :=
  execAccess_next (i := .php) rfl (by decide) (phpEffect_eq _)

/-- PLP unpacks the pulled byte (R153). -/
theorem exec_plp (s : State) : exec .plp s = .next ({ s.pastOperand .plp with
    sp := s.sp + 1, flags := Flags.unpack (s.ram.get (0x100 + (s.sp + 1).toNat)) }.credit 4) :=
  execAccess_next (i := .plp) rfl (by decide) (plpEffect_eq _)

/-- Settles O59: PLP pulls the byte PHP pushed, and unpacking undoes packing. -/
theorem phpThenPlpRestoresFlags : Obligations.PhpThenPlpRestoresFlags := by
  refine ⟨fun s => ⟨_, _, exec_php s, exec_plp _, ?_, ?_, rfl⟩, Flags.pack_unpack, Flags.unpack_pack⟩
  · simp
  · simp

end Sys2Proof.Machine
end

section
namespace Sys2Proof.Machine

/-! ## 16-bit reads from PRG-ROM -/

section PrgReads

variable {p : Word} {s : State} {ol oh : Nat}

theorem memRead_prg_some {v : Byte} (ht : s.target p = .prg ol) (hv : readPRG s.cart ol = some v) :
    memRead p s = .ok (v, s) := by
  simp [memRead, ht, hv]

theorem memRead_prg_none (ht : s.target p = .prg ol) (hv : readPRG s.cart ol = none) :
    memRead p s = raise (.configError ol) s := by
  simp [memRead, ht, hv]

/-- Both bytes are there: their word, with no side effect (R48, R51). -/
theorem read16_prg {l h : Byte} (hl : s.target p = .prg ol) (hh : s.target (p + 1) = .prg oh)
    (el : readPRG s.cart ol = some l) (eh : readPRG s.cart oh = some h) : read16 p s = .ok (cat h l, s) := by
  simp only [read16, readPair, memRead_prg_some hl el, memRead_prg_some hh eh, andThen_ok]

/-- The low byte is not there (R48, R55). -/
theorem read16_prg_lo_none (hl : s.target p = .prg ol) (el : readPRG s.cart ol = none) :
    read16 p s = raise (.configError ol) s := by
  simp [read16, readPair, memRead_prg_none hl el]

/-- The high byte is not there (R48, R55). -/
theorem read16_prg_hi_none {l : Byte} (hl : s.target p = .prg ol) (hh : s.target (p + 1) = .prg oh)
    (el : readPRG s.cart ol = some l) (eh : readPRG s.cart oh = none) : read16 p s = raise (.configError oh) s := by
  simp only [read16, readPair, memRead_prg_some hl el, memRead_prg_none hh eh, andThen_ok, raise_eq, andThen_error]

end PrgReads

/-! ## Reset -/

/-- The reset vector's bytes are PRG bytes of the upper bank (R47, R57). -/
theorem target_resetVector (s : State) : s.target resetVector = .prg (0x3FFC + s.params.prgUpperBase) := by
  simp [State.target, busDecode_eq, resetVector]

theorem target_resetVector_succ (s : State) : s.target (resetVector + 1) = .prg (0x3FFD + s.params.prgUpperBase) := by
  simp [State.target, busDecode_eq, resetVector]

section PowerOn

variable {p : Params} {cart : Cartridge} {initRam initApu : Memory}

theorem powerOn_fixed {a : Word} (hm : p.resetPcMode = .fixed a) :
    powerOn p cart initRam initApu = .ok ((atReset p cart initRam initApu).setPC a) := by
  simp [powerOn, hm]

theorem powerOn_vector {w : Word} {t : State} (hm : p.resetPcMode = .vector)
    (hr : read16 resetVector (atReset p cart initRam initApu) = .ok (w, t)) :
    powerOn p cart initRam initApu = .ok (t.setPC w) := by
  simp [powerOn, hm, hr]

theorem powerOn_vector_error {e : Fault} (hm : p.resetPcMode = .vector)
    (hr : read16 resetVector (atReset p cart initRam initApu) = .error e) :
    powerOn p cart initRam initApu = .error e.kind := by
  simp [powerOn, hm, hr]

/-- Whatever the mode, reset that completes leaves the state of R38 with some PC: the vector read has no side effect. -/
theorem powerOn_ok {s : State} (h : powerOn p cart initRam initApu = .ok s) :
    ∃ pc, s = (atReset p cart initRam initApu).setPC pc := by
  cases hm : p.resetPcMode with
  | fixed a =>
    rw [powerOn_fixed hm] at h
    cases h
    exact ⟨a, rfl⟩
  | vector =>
    cases hr : read16 resetVector (atReset p cart initRam initApu) with
    | error e =>
      rw [powerOn_vector_error hm hr] at h
      cases h
    | ok r =>
      obtain ⟨w, t⟩ := r
      rw [powerOn_vector hm hr] at h
      cases h
      exact ⟨w, by rw [readPair_prg (target_resetVector _) (target_resetVector_succ _) hr]⟩

end PowerOn

/-- The live P after reset is 0x24 (R38). -/
theorem pack_reset : State.reset.flags.pack false = 0x24 := by decide

/-- Settles O14: reset leaves the state of R38, and the vector mode follows the two reads of the vector. -/
theorem resetLeavesSpecState : Obligations.ResetLeavesSpecState := by
  refine ⟨fun p cart initRam initApu s h => ?_, fun p cart initRam initApu a hm => ?_,
    fun p cart initRam initApu l h hm hl hh => ?_, fun p cart initRam initApu hm hl => ?_,
    fun p cart initRam initApu l hm hl hh => ?_, rfl, rfl⟩
  · obtain ⟨pc, rfl⟩ := powerOn_ok h
    exact ⟨rfl, rfl, rfl, rfl, rfl, pack_reset, rfl, rfl, rfl, rfl, rfl, rfl⟩
  · exact ⟨_, powerOn_fixed hm, rfl⟩
  · exact ⟨_, powerOn_vector hm (read16_prg (target_resetVector _) (target_resetVector_succ _) hl hh), rfl⟩
  · exact powerOn_vector_error hm (read16_prg_lo_none (target_resetVector _) hl)
  · exact powerOn_vector_error hm (read16_prg_hi_none (target_resetVector _) (target_resetVector_succ _) hl hh)

/-- Nothing listed is in canonical form. -/
theorem Memory.wf_nil : Memory.wf [] := ⟨List.Pairwise.nil, by simp⟩

theorem Memory.below_nil (size : Nat) : Memory.below size [] := by simp

/-- The state of R38 meets the invariant when the contents it is given do, whatever PC is. -/
theorem atReset_inv {p : Params} {cart : Cartridge} {initRam initApu : Memory} (pc : Word)
    (hr : initRam.wf) (hrb : initRam.below Config.ramSize) (ha : initApu.wf) (hab : initApu.below Config.apuSize)
    (hc : cart.bytes.wf) (hcb : cart.bytes.below cart.size) : ((atReset p cart initRam initApu).setPC pc).Inv where
  ram_wf := hr
  ram_below := hrb
  apu_wf := ha
  apu_below := hab
  cart_wf _ h := by cases h; exact ⟨hc, hcb⟩

/-- Settles O8: State.reset is the reset from empty contents, and every reset that completes is one from the contents given. -/
theorem resetMeetsInvariant : Obligations.ResetMeetsInvariant := by
  refine ⟨?_, fun p cart initRam initApu s hr hrb ha hab hc hcb h => ?_⟩
  · exact atReset_inv (p := Params.default) (cart := Cartridge.blank) 0xC000 Memory.wf_nil (Memory.below_nil _)
      Memory.wf_nil (Memory.below_nil _) Memory.wf_nil (Memory.below_nil _)
  · obtain ⟨pc, rfl⟩ := powerOn_ok h
    exact atReset_inv pc hr hrb ha hab hc hcb

end Sys2Proof.Machine
end

section
namespace Sys2Proof.Machine

/-! ## The ranges of the address table -/

section Ranges

variable {s : State} {a : Word} {k : Nat}

/-- The addresses that reach a RAM cell: its four mirrors (R42, R43). -/
theorem target_eq_ram : s.target a = .ram k ↔ a.toNat ≤ 0x1FFF ∧ a.toNat % 0x800 = k := by
  rw [State.target, busDecode_eq]
  split_ifs with h <;> simp [h]

/-- The addresses that reach a PPU register (R44). -/
theorem target_eq_ppu {r : BitVec 3} :
    s.target a = .ppu r ↔ 0x2000 ≤ a.toNat ∧ a.toNat ≤ 0x3FFF ∧ BitVec.ofNat 3 a.toNat = r := by
  rw [State.target, busDecode_eq]
  split_ifs <;> grind

/-- The one address that reaches an APU/IO cell (R45). -/
theorem target_eq_apu : s.target a = .apu k ↔ 0x4000 ≤ a.toNat ∧ a.toNat ≤ 0x4017 ∧ a.toNat - 0x4000 = k := by
  rw [State.target, busDecode_eq]
  split_ifs <;> simp <;> omega

/-- The addresses with no store behind them (R49). -/
theorem target_eq_unmapped : s.target a = .unmapped ↔ 0x4018 ≤ a.toNat ∧ a.toNat ≤ 0x7FFF := by
  rw [State.target, busDecode_eq]
  split_ifs <;> simp <;> omega

/-- The addresses of the two PRG banks (R46, R47). -/
theorem target_prg (ha : 0x8000 ≤ a.toNat) : s.target a =
    .prg (if a.toNat ≤ 0xBFFF then a.toNat % 0x8000 else a.toNat - 0xC000 + s.params.prgUpperBase) := by
  rw [State.target, busDecode_eq, if_neg (by omega), if_neg (by omega), if_neg (by omega), if_neg (by omega)]

/-- The lower bank reaches offset k (R46). -/
theorem target_prgLower (hk : k < 0x4000) : s.target (BitVec.ofNat 16 (0x8000 + k)) = .prg k := by
  have ha : (BitVec.ofNat 16 (0x8000 + k)).toNat = 0x8000 + k := by simp; omega
  rw [target_prg (by omega), ha, if_pos (by omega), Nat.add_mod_left, Nat.mod_eq_of_lt (by omega)]

/-- The upper bank reaches the offset k past PRG_UPPER_BASE (R47). -/
theorem target_prgUpper (hk : k < 0x4000) :
    s.target (BitVec.ofNat 16 (0xC000 + k)) = .prg (k + s.params.prgUpperBase) := by
  have ha : (BitVec.ofNat 16 (0xC000 + k)).toNat = 0xC000 + k := by simp; omega
  rw [target_prg (by omega), ha, if_neg (by omega), Nat.add_sub_cancel_left]

end Ranges

/-! ## Accesses by the store they reach -/

section ByTarget

variable {s : State} {a : Word} {k : Nat} {r : BitVec 3}

theorem memRead_ram (h : s.target a = .ram k) : memRead a s = .ok (s.ram.get k, s) := by simp [memRead, h]

theorem memRead_ppu (h : s.target a = .ppu r) : memRead a s = .ok (ppuRead r s) := by simp [memRead, h]

theorem memRead_apu (h : s.target a = .apu k) : memRead a s = .ok (s.apu.get k, s) := by simp [memRead, h]

theorem memWrite_ram (h : s.target a = .ram k) (v : Byte) : memWrite a v s = .ok ((), s.setRam k v) := by
  simp [memWrite, h]

theorem memWrite_ppu (h : s.target a = .ppu r) (v : Byte) :
    memWrite a v s = .ok ((), s.logPpu (.write s.cycles r v)) := by simp [memWrite, h]

theorem memWrite_apu (h : s.target a = .apu k) (v : Byte) : memWrite a v s = .ok ((), s.setApu k v) := by
  simp [memWrite, h]

theorem memRead_unmapped (h : s.target a = .unmapped) : memRead a s = raise (.unmappedAddress a .read) s := by
  simp [memRead, h]

theorem memWrite_unmapped (h : s.target a = .unmapped) (v : Byte) :
    memWrite a v s = raise (.unmappedAddress a .write) s := by
  simp [memWrite, h]

end ByTarget

/-- A read of PRG-ROM is answered by the cartridge (R48). -/
theorem memRead_prg_kind {s : State} {a : Word} {off : Nat} (h : s.target a = .prg off) :
    Except.mapError Fault.kind (memRead a s) = match s.cart with
      | none => .error (.configError off)
      | some c => if off < c.size then .ok (c.bytes.get off, s) else .error (.configError off) := by
  cases hc : s.cart with
  | none => rw [memRead_prg_none h (by rw [hc]; rfl)]; rfl
  | some c =>
    by_cases hlt : off < c.size
    · rw [memRead_prg_some h (by rw [hc]; exact if_pos hlt)]
      exact (if_pos hlt).symm
    · rw [memRead_prg_none h (by rw [hc]; exact if_neg hlt)]
      exact (if_neg hlt).symm

/-- A write to PRG-ROM is answered by the write policy (R50). -/
theorem memWrite_prg {s : State} {a : Word} {off : Nat} (h : s.target a = .prg off) (v : Byte) :
    memWrite a v s = romWrite a v s := by simp [memWrite, h]

/-- Settles O15: each range reaches one store, and in PRG-ROM the cartridge or the write policy decides. -/
theorem busFollowsAddressTable : Obligations.BusFollowsAddressTable := by
  intro a s v
  by_cases hram : a.toNat ≤ 0x1FFF
  · have ht := (target_eq_ram (s := s)).mpr ⟨hram, rfl⟩
    rw [memRead_ram ht, memWrite_ram ht, if_pos hram, if_pos hram]
    exact ⟨rfl, rfl⟩
  rw [if_neg hram, if_neg hram]
  by_cases hppu : a.toNat ≤ 0x3FFF
  · have ht := (target_eq_ppu (s := s)).mpr ⟨by omega, hppu, rfl⟩
    rw [memRead_ppu ht, memWrite_ppu ht, if_pos hppu, if_pos hppu]
    exact ⟨rfl, rfl⟩
  rw [if_neg hppu, if_neg hppu]
  by_cases hapu : a.toNat ≤ 0x4017
  · have ht := (target_eq_apu (s := s)).mpr ⟨by omega, hapu, rfl⟩
    rw [memRead_apu ht, memWrite_apu ht, if_pos hapu, if_pos hapu]
    exact ⟨rfl, rfl⟩
  rw [if_neg hapu, if_neg hapu]
  by_cases hun : a.toNat ≤ 0x7FFF
  · have ht := (target_eq_unmapped (s := s)).mpr ⟨by omega, hun⟩
    rw [memRead_unmapped ht, memWrite_unmapped ht, if_pos hun, if_pos hun]
    exact ⟨rfl, rfl⟩
  rw [if_neg hun, if_neg hun]
  have ht := target_prg (s := s) (a := a) (by omega)
  refine ⟨memRead_prg_kind ht, ?_⟩
  rw [memWrite_prg ht, romWrite]
  cases s.params.romWritePolicy <;> rfl

/-- Settles O18: both accesses reach the register, and each appends its event. -/
theorem ppuAccessesAreEvents : Obligations.PpuAccessesAreEvents := by
  intro a v s hlo hhi
  have ht : s.target a = .ppu (BitVec.ofNat 3 a.toNat) := target_eq_ppu.mpr ⟨hlo, hhi, rfl⟩
  exact ⟨⟨_, rfl, memRead_ppu ht⟩, memWrite_ppu ht v⟩

/-- Settles O16: the mirrors are the addresses that reach the written cell. -/
theorem ramMirrorsShareCells : Obligations.RamMirrorsShareCells := by
  intro a v s ha
  have ht : s.target a = .ram (a.toNat % 0x800) := target_eq_ram.mpr ⟨ha, rfl⟩
  have hw := memWrite_ram ht v
  refine ⟨_, hw, fun b hb hm => ?_, fun b hb => memWrite_frame hw b ?_⟩
  · rw [memRead_ram (target_eq_ram.mpr ⟨hb, hm⟩), State.setRam_ram, Memory.get_set_same]
  · simpa [ht, target_eq_ram] using hb

/-- Settles O17: no other address reaches the written cell. -/
theorem apuCellsReadBack : Obligations.ApuCellsReadBack := by
  intro a v s hlo hhi
  have ht : s.target a = .apu (a.toNat - 0x4000) := target_eq_apu.mpr ⟨hlo, hhi, rfl⟩
  have hw := memWrite_apu ht v
  refine ⟨_, hw, ?_, rfl, fun b hb => memWrite_frame hw b ?_⟩
  · rw [memRead_apu (s := s.setApu _ v) ht, State.setApu_apu, Memory.get_set_same]
  · have hne : b.toNat ≠ a.toNat := fun h => hb (BitVec.eq_of_toNat_eq h)
    simp only [List.mem_singleton, forall_eq, ht, ne_eq, target_eq_apu]
    omega

/-- Settles O19: what the two banks reach. -/
theorem prgBanks : Obligations.PrgBanks := by
  intro s k hk
  have hlower : s.peek (BitVec.ofNat 16 (0x8000 + k)) = readPRG s.cart k := by simp only [State.peek, target_prgLower hk]
  have hupper : s.peek (BitVec.ofNat 16 (0xC000 + k)) = readPRG s.cart (k + s.params.prgUpperBase) := by
    simp only [State.peek, target_prgUpper hk]
  exact ⟨hlower, hupper, fun hbase => by rw [hlower, hupper, hbase, Nat.add_zero]⟩

end Sys2Proof.Machine
end

section
namespace Sys2Proof

/-! ## Bytes of a word -/

theorem toNat_cat (h l : Byte) : (cat h l).toNat = 0x100 * h.toNat + l.toNat := by
  rw [cat, BitVec.toNat_append, Nat.shiftLeft_eq, Nat.mul_comm, Nat.two_pow_add_eq_or_of_lt l.isLt]

theorem and_highMask (w : Word) : w &&& 0xFF00 = cat (hiByte w) 0 := by
  conv_lhs => rw [← cat_hiByte_loByte w, show (0xFF00 : Word) = cat (BitVec.allOnes 8) 0 from rfl, cat, cat,
    BitVec.and_append, BitVec.and_allOnes]
  simp [cat]

theorem and_lowMask (w : Word) : w &&& 0x00FF = cat 0 (loByte w) := by
  conv_lhs => rw [← cat_hiByte_loByte w, show (0x00FF : Word) = cat 0 (BitVec.allOnes 8) from rfl, cat, cat,
    BitVec.and_append, BitVec.and_allOnes]
  simp [cat]

theorem loByte_succ (w : Word) : loByte (w + 1) = loByte w + 1 := BitVec.setWidth_add w 1 (by decide)

/-- Where the low byte does not wrap, the next address is in the same page. -/
theorem succ_eq_cat {w : Word} (hw : loByte w ≠ 0xFF) : w + 1 = cat (hiByte w) (loByte w + 1) := by
  have hcat : w.toNat = 0x100 * (hiByte w).toNat + (loByte w).toNat := by rw [← toNat_cat, cat_hiByte_loByte]
  have hne : (loByte w).toNat ≠ 0xFF := fun h => hw (BitVec.eq_of_toNat_eq h)
  apply BitVec.eq_of_toNat_eq
  rw [toNat_cat]
  simp
  omega

end Sys2Proof

namespace Sys2Proof.Machine

/-! ## Pointers -/

/-- The high byte of a Read16Bug pointer stands in the page of the pointer (R53). -/
theorem bugHigh_eq_cat (p : Word) : bugHigh p = cat (hiByte p) (loByte p + 1) := by
  rw [bugHigh, and_highMask, and_lowMask, loByte_succ, cat, cat, BitVec.or_append]
  simp [cat]

/-- Settles O20: the address of the pointer's high byte, in page zero and in the page of the pointer. -/
theorem pointerReadsWrap : Obligations.PointerReadsWrap := by
  refine ⟨fun p s => ?_, fun p s hp => ?_, fun p s hp => ?_⟩
  · rw [read16ZP_eq, BitVec.toNat_add]
    rfl
  · rw [read16Bug, read16, bugHigh_eq_cat, succ_eq_cat hp]
  · rw [read16Bug, bugHigh_eq_cat, and_highMask, hp]
    rfl

/-! ## The stack -/

/-- The stack address as a number (R57). -/
theorem ofNat_stackAddr (p : Byte) : BitVec.ofNat 16 (0x100 + p.toNat) = stackAddr p := by
  rw [← stackAddr_toNat, BitVec.ofNat_toNat, BitVec.setWidth_eq]

theorem peek_stackAddr (s : State) (p : Byte) : s.peek (stackAddr p) = some (s.ram.get (0x100 + p.toNat)) := by
  simp only [State.peek, target_stackAddr]

/-- Filling a stack slot changes no other byte (R57, R60). -/
theorem setSlot_frame (p v : Byte) (s : State) : SameMemoryBut [stackAddr p] s (s.setRam (0x100 + p.toNat) v) :=
  memWrite_frame (memWrite_ram (target_stackAddr s p) v)

/-- A push changes the one slot it fills (R59). -/
theorem push_frame {v : Byte} {s t : State} (h : push v s = .ok ((), t)) : SameMemoryBut [stackAddr s.sp] s t := by
  rw [push_eq] at h
  cases h
  exact setSlot_frame s.sp v s

/-- Two slots next to each other are two cells, at the wrap of SP too. -/
theorem slot_pred_ne (p : Byte) : 0x100 + (p - 1).toNat ≠ 0x100 + p.toNat := by
  bv_omega

theorem pull_push {v : Byte} {s t : State} (h : push v s = .ok ((), t)) : pull t = .ok (v, { t with sp := s.sp }) := by
  rw [push_eq] at h
  cases h
  simp [pull_eq, State.setSP]

theorem pull16_push16 {w : Word} {s t : State} (h : push16 w s = .ok ((), t)) :
    pull16 t = .ok (w, { t with sp := s.sp }) := by
  rw [push16_eq] at h
  cases h
  simp only [pull16_eq, State.setSP_sp, State.setSP_ram, State.setRam_ram, BitVec.sub_add_cancel, Memory.get_set_same,
    Memory.get_set_other _ _ _ _ (slot_pred_ne s.sp).symm, cat_hiByte_loByte]
  rfl

/-- Settles O21: a push and a pull are accesses of a RAM cell, and the two slots of a 16-bit push are two cells. -/
theorem stackPrimitives : Obligations.StackPrimitives := by
  refine ⟨fun v s => ?_, fun s => ?_, fun _ _ => rfl, fun _ => rfl, fun _ _ _ => pull_push, fun _ _ _ => pull16_push16⟩
  · rw [ofNat_stackAddr]
    refine ⟨_, push_eq v s, rfl, ?_, push_frame (push_eq v s)⟩
    rw [peek_stackAddr, State.setSP_ram, State.setRam_ram, Memory.get_set_same]
  · rw [ofNat_stackAddr]
    exact ⟨_, peek_stackAddr s _, pull_eq s⟩

/-- One change after another: the addresses of the second are taken as the first state decodes them. -/
theorem SameMemoryBut.trans {l l' : List Word} {s t u : State} (h : SameMemoryBut l s t) (hp : t.params = s.params)
    (h' : SameMemoryBut l' t u) : SameMemoryBut (l ++ l') s u := by
  intro b hb
  have hb' : ∀ ea ∈ l', t.target b ≠ t.target ea := by
    simp only [State.target, hp]
    exact fun ea hea => hb ea (List.mem_append_right _ hea)
  exact (h' b hb').trans (h b fun ea hea => hb ea (List.mem_append_left _ hea))

/-- Filling the slot at p and the one below it. -/
theorem setTwoSlots_frame (p v w : Byte) (s : State) :
    SameMemoryBut [stackAddr p, stackAddr (p - 1)] s ((s.setRam (0x100 + p.toNat) v).setRam (0x100 + (p - 1).toNat) w) :=
  (setSlot_frame p v s).trans rfl (setSlot_frame (p - 1) w _)

/-- Settles O56: each push fills the slot at SP, so a call fills two slots and a break three. -/
theorem pushingInstructionsChangeStackSlots : Obligations.PushingInstructionsChangeStackSlots := by
  intro i s t h
  obtain ⟨-, r, s1, n, s2, hres, hbody, rfl⟩ := exec_next h
  obtain ⟨l, rfl⟩ : ∃ l, s1 = (s.pastOperand i).withLog l := ⟨_, resolve_state hres⟩
  refine ⟨fun hm => ?_, fun hm => ?_, fun hm => ?_⟩
  · rcases hm with hm | hm
    all_goals
      rw [hm] at hbody
      have hframe := push_frame (accessBody_ok hbody).2
      exact hframe
  · rw [hm] at hbody
    obtain ⟨-, w, -, hu⟩ := jumpBody_ok hbody
    rw [jsrEffect_eq] at hu
    cases hu
    exact setTwoSlots_frame s.sp _ _ s
  · rw [hm] at hbody
    obtain ⟨-, hu⟩ := accessBody_ok hbody
    obtain ⟨w, l', rfl⟩ := enterBreak_ok hu
    rw [show s.sp - 2 = s.sp - 1 - 1 from (BitVec.sub_sub s.sp 1 1).symm]
    exact (setTwoSlots_frame s.sp _ _ s).trans rfl (setSlot_frame (s.sp - 1 - 1) _ _)

end Sys2Proof.Machine
end

section
namespace Sys2Proof.Machine

/-! ## The record of PPU accesses -/

/-- The record of PPU accesses at s stands at the front of the one at t. `Carried` does not fit this relation: it would allow any
other record. -/
def LogGrows (s t : State) : Prop := s.ppuLog <+: t.ppuLog

theorem LogGrows.trans {s t u : State} (h : LogGrows s t) (h' : LogGrows t u) : LogGrows s u := List.IsPrefix.trans h h'

theorem logGrows_of_same {s t : State} (h : t.ppuLog = s.ppuLog) : LogGrows s t := by
  rw [LogGrows, h]

/-! ### Accesses -/

theorem memRead_logGrows {a : Word} {s t : State} {v : Byte} (h : memRead a s = .ok (v, t)) : LogGrows s t := by
  rcases memRead_cases h with ⟨-, rfl⟩ | ⟨r, -, -, rfl⟩
  · exact logGrows_of_same rfl
  · exact List.prefix_append _ _

theorem memWrite_logGrows (a : Word) (v : Byte) (s t : State) (h : memWrite a v s = .ok ((), t)) : LogGrows s t := by
  rcases memWrite_cases h with ⟨k, -, rfl⟩ | ⟨k, -, rfl⟩ | ⟨r, -, rfl⟩ | ⟨o, -, -, rfl⟩
  · exact logGrows_of_same rfl
  · exact logGrows_of_same rfl
  · exact List.prefix_append _ _
  · exact logGrows_of_same rfl

theorem readPair_logGrows {lo hi w : Word} {s t : State} (h : readPair lo hi s = .ok (w, t)) : LogGrows s t := by
  simp only [readPair, andThen_eq_ok, Except.ok.injEq, Prod.mk.injEq] at h
  obtain ⟨l, s1, h1, u, s2, h2, -, rfl⟩ := h
  exact (memRead_logGrows h1).trans (memRead_logGrows h2)

theorem resolve_logGrows {o : Operand} {s t : State} {r : Resolved} (h : resolve o s = .ok (r, t)) : LogGrows s t := by
  cases o
  case ind | indx | indy =>
    simp only [resolve, andThen_eq_ok, Except.ok.injEq, Prod.mk.injEq] at h
    obtain ⟨w, s1, h1, -, rfl⟩ := h
    exact readPair_logGrows h1
  all_goals
    cases h
    exact logGrows_of_same rfl

theorem enterBreak_logGrows {ret : Word} {s t : State} (h : enterBreak ret s = .ok ((), t)) : LogGrows s t := by
  unfold enterBreak at h
  rw [push16_eq, andThen_ok, push_eq, andThen_ok, andThen_eq_ok] at h
  obtain ⟨target, s3, h1, h2⟩ := h
  cases h2
  simpa [LogGrows] using readPair_logGrows h1

/-! ### Bodies -/

section Bodies

variable {bad : FaultKind} {tgt : Target} {s t : State} {n : Nat}

theorem readBody_logGrows {f : Byte → State → State} (h : readBody bad f tgt s = .ok (n, t))
    (hf : ∀ m u, (f m u).ppuLog = u.ppuLog) : LogGrows s t := by
  obtain ⟨-, m, s1, -, rfl, ⟨-, rfl⟩ | ⟨ea, -, hr⟩⟩ := readBody_ok h
  · exact logGrows_of_same (hf m s1)
  · exact (memRead_logGrows hr).trans (logGrows_of_same (hf m s1))

theorem rmwBody_logGrows {r : Byte → State → Byte} {post : Byte → State → State}
    (h : rmwBody bad r post tgt s = .ok (n, t)) (hp : ∀ m u, (post m u).ppuLog = u.ppuLog) : LogGrows s t := by
  obtain ⟨-, ea, m, s1, s2, -, hr, hw, rfl⟩ := rmwBody_ok h
  exact ((memRead_logGrows hr).trans (memWrite_logGrows _ _ _ _ hw)).trans (logGrows_of_same (hp m s2))

theorem branchBody_logGrows {cond : State → Bool} (h : branchBody bad cond tgt s = .ok (n, t)) : LogGrows s t := by
  obtain ⟨-, ⟨rfl, -⟩ | ⟨w, -, rfl⟩⟩ := branchBody_ok h
  · exact logGrows_of_same rfl
  · exact logGrows_of_same rfl

/-- A completed body extends the record by its own reads and writes, and leaves it alone otherwise. -/
theorem bodyOf_logGrows {m : Mnemonic} {access : AccessClass} (h : bodyOf m access bad tgt s = .ok (n, t)) :
    LogGrows s t := by
  cases m
  case LDA | LDX | LDY | LAX | AND | ORA | EOR | BIT | CMP | CPX | CPY | ADC | SBC =>
    exact readBody_logGrows h fun _ _ => rfl
  case TAX | TAY | TXA | TYA | TSX | TXS | INX | INY | DEX | DEY | CLC | SEC | CLI | SEI | CLD | SED | CLV =>
    exact impliedBody_rel (logGrows_of_same rfl) h
  case NOP =>
    simp only [bodyOf] at h
    split at h
    · exact impliedBody_rel (logGrows_of_same rfl) h
    · exact readBody_logGrows h fun _ _ => rfl
  case UNIMPLEMENTED => cases h
  case STA | STX | STY | SAX => exact writeBody_rel memWrite_logGrows h
  case INC | DEC | DCP | ISB | SLO | RLA | SRE | RRA => exact rmwBody_logGrows h fun _ _ => rfl
  case ASL | LSR | ROL | ROR =>
    simp only [bodyOf] at h
    split at h
    · refine registerBody_rel (fun _ _ => ?_) h
      exact logGrows_of_same rfl
    · exact rmwBody_logGrows h fun _ _ => rfl
  case BCC | BCS | BEQ | BNE | BMI | BPL | BVC | BVS => exact branchBody_logGrows h
  case JMP | JSR =>
    refine jumpBody_rel (fun w u hu => ?_) h
    simp only [jmpEffect, jsrEffect_eq, Except.ok.injEq, Prod.mk.injEq, true_and] at hu
    subst hu
    exact logGrows_of_same rfl
  case BRK =>
    refine accessBody_rel (fun u hu => ?_) h
    exact enterBreak_logGrows hu
  case PHA | PHP | PLA | PLP | RTS | RTI =>
    refine accessBody_rel (fun u hu => ?_) h
    simp only [phaEffect_eq, phpEffect_eq, plaEffect_eq, plpEffect_eq, rtsEffect_eq, rtiEffect, leaveBreak_eq,
      Except.ok.injEq, Prod.mk.injEq, true_and] at hu
    subst hu
    exact logGrows_of_same rfl

end Bodies

/-! ### The step -/

theorem fetchOperand_logGrows {pc0 : Word} {k : Nat} {s t : State} {b : Byte} (h : fetchOperand pc0 k s = .ok (b, t)) :
    LogGrows s t := by
  simpa [LogGrows] using memRead_logGrows h

theorem fetch_logGrows {s t : State} {i : Instr} (h : fetch s = .ok (i, t)) : LogGrows s t := by
  simp only [fetch, andThen_eq_ok] at h
  obtain ⟨op, s1, h1, h⟩ := h
  refine (memRead_logGrows h1).trans ?_
  split at h
  · cases h
    exact logGrows_of_same rfl
  · simp only [andThen_eq_ok, Except.ok.injEq, Prod.mk.injEq] at h
    obtain ⟨b1, s2, h2, -, rfl⟩ := h
    simpa [LogGrows] using fetchOperand_logGrows h2
  · simp only [andThen_eq_ok, Except.ok.injEq, Prod.mk.injEq] at h
    obtain ⟨b1, s2, h2, b2, s3, h3, -, rfl⟩ := h
    simpa [LogGrows] using (fetchOperand_logGrows h2).trans (fetchOperand_logGrows h3)

theorem exec_logGrows {i : Instr} {s t : State} (h : exec i s = .next t) : LogGrows s t := by
  obtain ⟨-, r, s1, n, s2, hres, hbody, rfl⟩ := exec_next h
  simpa [LogGrows] using (resolve_logGrows hres).trans (bodyOf_logGrows hbody)

/-- Settles O11: the reads of the fetch and then the accesses of the instruction append their events. -/
theorem ppuRecordOnlyGrows : Obligations.PpuRecordOnlyGrows := by
  intro s t h
  obtain ⟨-, i, s1, hf, he⟩ := step_eq_next.mp h
  obtain ⟨new, hnew⟩ := (fetch_logGrows hf).trans (exec_logGrows he)
  exact ⟨new, hnew.symm⟩

end Sys2Proof.Machine
end

section
namespace Sys2Proof

/-! ## The decoder and the encoder agree -/

/-- What a table entry makes of its operand bytes: the instruction it stands for once they are assembled (R72, R73). -/
inductive Entry.Yields : Entry → List Byte → Instr → Prop
  | op0 (i : Instr) : Entry.Yields (.op0 i) [] i
  | op1 (f : Byte → Instr) (nn : Byte) : Entry.Yields (.op1 f) [nn] (f nn)
  | op2 (f : Word → Instr) (a : Word) : Entry.Yields (.op2 f) [loByte a, hiByte a] (f a)

/-- The decoder splits off exactly the operand bytes its table entry asks for (R70 to R73). -/
theorem decode_cons_eq_ok {op : Byte} {bytes rest : List Byte} {i : Instr} :
    decode (op :: bytes) = .ok (i, rest) ↔ ∃ operand, (lookup op).Yields operand i ∧ bytes = operand ++ rest := by
  constructor
  · intro h
    cases hl : lookup op with
    | op0 j =>
      rw [decode_of_op0 hl] at h
      cases h
      exact ⟨[], .op0 i, rfl⟩
    | op1 f =>
      match bytes with
      | [] => simp [decode, hl] at h
      | nn :: r =>
        rw [decode_of_op1 hl] at h
        cases h
        exact ⟨[nn], .op1 f nn, rfl⟩
    | op2 f =>
      match bytes with
      | [] | [_] => simp [decode, hl] at h
      | l :: u :: r =>
        rw [decode_of_op2 hl] at h
        cases h
        exact ⟨[l, u], by simpa using Entry.Yields.op2 f (cat u l), rfl⟩
  · rintro ⟨operand, hy, rfl⟩
    generalize hl : lookup op = e at hy
    cases hy with
    | op0 => exact decode_of_op0 hl rest
    | op1 f nn => exact decode_of_op1 hl nn rest
    | op2 f a => simpa using decode_of_op2 hl (loByte a) (hiByte a) rest

/-- No instruction is missing from the table: the entry at its opcode yields it from its operand bytes. -/
theorem lookup_opcode_yields (i : Instr) : (lookup i.row.opcode).Yields i.row.operand.bytes i := by
  cases i <;> constructor

/-- The entry stands at its own opcode: whatever it yields is encoded as that opcode and the operand bytes it was given. -/
def Entry.EncodesAt (op : Byte) (e : Entry) : Prop := ∀ operand i, e.Yields operand i → encode i = op :: operand

/-- The 256 entries stand at the opcodes 0x00 to 0xFF in order, each checked for every operand value. -/
theorem opcodeMap_encodesAt : List.Forall₂ Entry.EncodesAt (List.ofFn BitVec.ofFin) opcodeMap := by
  repeat' constructor
  all_goals
    rintro _ _ ⟨⟩
    rfl

theorem lookup_encodesAt (op : Byte) : (lookup op).EncodesAt op := by
  have h := opcodeMap_encodesAt.get (i := op.toNat) (by rw [List.length_ofFn]; exact op.isLt)
    (by rw [opcodeMap_length]; exact op.isLt)
  rw [List.get_eq_getElem, List.getElem_ofFn] at h
  exact h

/-- Settles O2: the entry at the instruction's opcode yields it from its operand bytes, and the decoder reads just those. -/
theorem decodeOfEncode : Obligations.DecodeOfEncode := fun i _ =>
  decode_cons_eq_ok.mpr ⟨i.row.operand.bytes, lookup_opcode_yields i, rfl⟩

/-- Settles O3: what the entry at the opcode yields is encoded as the opcode and the operand bytes the decoder split off. -/
theorem encodeOfDecode : Obligations.EncodeOfDecode := by
  intro bytes rest i h
  cases bytes with
  | nil => cases h
  | cons op bytes =>
    obtain ⟨operand, hy, rfl⟩ := decode_cons_eq_ok.mp h
    rw [lookup_encodesAt op operand i hy, List.cons_append]

/-- Settles O1: each word is the encoding of the instruction it stands for. -/
theorem specWordsDecode : Obligations.SpecWordsDecode :=
  ⟨decodeOfEncode (.ldaImm 0x10) [], decodeOfEncode (.ldxAbsy 0x1234) [], decodeOfEncode (.staIndy 0x20) [],
    decodeOfEncode .txs [], decodeOfEncode .php [], decodeOfEncode (.adcAbsx 0x10FF) [], decodeOfEncode .rorAcc [],
    decodeOfEncode (.jmpInd 0x02FF) [], decodeOfEncode (.bne 0xF8) [], decodeOfEncode .clv [],
    decodeOfEncode (.dcpIndx 0x24) [], decodeOfEncode (.sbcImmEB 0x01) [], decodeOfEncode .unimplemented8B []⟩

end Sys2Proof
end

section
namespace Sys2Proof

/-! ## Addresses as numbers -/

theorem zext16_eq_ofNat (b : Byte) : zext16 b = BitVec.ofNat 16 b.toNat := (BitVec.ofNat_toNat 16 b).symm

theorem sext16_eq_ofInt (b : Byte) : sext16 b = BitVec.ofInt 16 b.toInt := rfl

/-- A zero-page indexed address wraps in page zero (R95, R96). -/
theorem zext16_add (b c : Byte) : zext16 (b + c) = BitVec.ofNat 16 ((b.toNat + c.toNat) % 0x100) := by
  rw [zext16_eq_ofNat, BitVec.toNat_add]

/-- A branch target is the signed sum modulo 2^16 (R97). -/
theorem add_sext16 (w : Word) (b : Byte) : w + sext16 b = BitVec.ofInt 16 (w.toNat + b.toInt) := by
  rw [BitVec.ofInt_add, BitVec.ofInt_natCast, BitVec.ofNat_toNat, BitVec.setWidth_eq, sext16_eq_ofInt]

/-- The high byte is the page number (R8). -/
theorem toNat_hiByte (w : Word) : (hiByte w).toNat = w.toNat / 0x100 := by
  have h : w.toNat < 0x10000 := w.isLt
  rw [hiByte, BitVec.toNat_setWidth, BitVec.toNat_ushiftRight, Nat.shiftRight_eq_div_pow]
  omega

theorem toNat_loByte (w : Word) : (loByte w).toNat = w.toNat % 0x100 := BitVec.toNat_setWidth 8 w

/-- Two addresses lie on the same page exactly where their high bytes agree (R99). -/
theorem hiByte_bne (v w : Word) : (hiByte v != hiByte w) = decide (v.toNat / 0x100 ≠ w.toNat / 0x100) := by
  simp only [← toNat_hiByte, ne_eq, BitVec.toNat_inj, decide_not, bne, beq_eq_decide]

end Sys2Proof

namespace Sys2Proof.Machine

/-- An indexed address is the sum modulo 2^16, and the page-cross bit compares its page with that of the base
(R99, R100, R103). -/
theorem indexed_eq (base : Word) (index : Byte) :
    indexed base index = ⟨.address (BitVec.ofNat 16 (base.toNat + index.toNat)),
      decide ((base.toNat + index.toNat) % 0x10000 / 0x100 ≠ base.toNat / 0x100)⟩ := by
  have hea : base + zext16 index = BitVec.ofNat 16 (base.toNat + index.toNat) := by
    rw [BitVec.ofNat_add, BitVec.ofNat_toNat, BitVec.setWidth_eq, zext16_eq_ofNat]
  rw [indexed, hea, hiByte_bne, BitVec.toNat_ofNat]

/-! ## The modes without pointer -/

/-- Settles O22: each address the resolver computes is the sum its rule gives. -/
theorem directModesResolve : Obligations.DirectModesResolve := by
  intro s nn a
  refine ⟨rfl, rfl, rfl, ?zp, ?zpx, ?zpy, ?rel, rfl, ?absx, ?absy⟩
  case zp => rw [resolve, uncrossed, zext16_eq_ofNat]
  case zpx | zpy => rw [resolve, uncrossed, zext16_add]
  case rel => rw [resolve, uncrossed, add_sext16]
  case absx | absy => rw [resolve, indexed_eq]

/-! ## The pointer modes -/

/-- The high byte of an ind pointer stands one byte on, in the same page (R53). -/
theorem bugHigh_eq_ofNat (a : Word) :
    bugHigh a = BitVec.ofNat 16 (a.toNat / 0x100 * 0x100 + (a.toNat + 1) % 0x100) := by
  have h : a.toNat < 0x10000 := a.isLt
  apply BitVec.eq_of_toNat_eq
  rw [bugHigh_eq_cat, ← loByte_succ, toNat_cat, toNat_hiByte, toNat_loByte, BitVec.toNat_add, BitVec.toNat_ofNat,
    show (1 : Word).toNat = 1 from rfl]
  omega

/-- A pair of peeked bytes is read with no side effect (R51, R56). -/
theorem readPair_of_peek {lo hi : Word} {s : State} {l h : Byte} (hl : s.peek lo = some l) (hh : s.peek hi = some h) :
    readPair lo hi s = .ok (cat h l, s) := by
  simp only [readPair, memRead_of_peek hl, memRead_of_peek hh, andThen_ok]

/-- The resolver faults in mode ind exactly as the pointer read does (R105). -/
theorem resolve_ind_fails {a : Word} {s : State} {k : FaultKind} :
    Fails (resolve (.ind a) s) k ↔ Fails (read16Bug a s) k := by
  simp only [resolve, andThen_fails, fails_ok, and_false, exists_false, or_false]

/-- Settles O23: a pointer in page zero is a pair of RAM bytes, and the ind pointer is read with its high byte in its own page,
the low byte first. -/
theorem pointerModesResolve : Obligations.PointerModesResolve := by
  refine ⟨fun s nn => ?_, fun s nn base hbase => ?_, fun s a l h hl hh => ?_, fun s a hlo hhi => ?_⟩
  · have hsucc : (nn + s.x + 1).toNat = (nn.toNat + s.x.toNat + 1) % 0x100 := by simp
    simp only [resolve, read16ZP_eq, andThen_ok, uncrossed, hsucc, BitVec.toNat_add]
  · have hsucc : (nn + 1).toNat = (nn.toNat + 1) % 0x100 := BitVec.toNat_add nn 1
    simp only [resolve, read16ZP_eq, andThen_ok, indexed_eq, hsucc, ← hbase]
  · rw [← bugHigh_eq_ofNat] at hh
    simp only [resolve, read16Bug, readPair_of_peek hl hh, andThen_ok, uncrossed]
  · have hread : Fails (memRead a s) (.unmappedAddress a .read) :=
      memRead_fails.mpr (.inl ⟨target_eq_unmapped.mpr ⟨hlo, hhi⟩, rfl⟩)
    exact resolve_ind_fails.mpr (readPair_fails.mpr (.inl hread))

end Sys2Proof.Machine
end

section
namespace Sys2Proof.Machine

/-! ## Faults of bus accesses -/

/-- The kind is one that some bus access raises (R48 to R50). -/
def AccessFault (k : FaultKind) : Prop := (∃ a s, Fails (memRead a s) k) ∨ ∃ a v s, Fails (memWrite a v s) k

/-- No bus access raises UnsupportedMode. -/
theorem AccessFault.ne_unsupportedMode {k : FaultKind} (h : AccessFault k) (pc : Word) (op : Byte) :
    k ≠ .unsupportedMode pc op := by
  rcases h with ⟨a, s, h⟩ | ⟨a, v, s, h⟩
  · rcases memRead_fails.mp h with ⟨-, rfl⟩ | ⟨_, -, -, rfl⟩ <;> simp
  · rcases memWrite_fails.mp h with ⟨-, rfl⟩ | ⟨_, -, -, rfl⟩ <;> simp

theorem enterBreak_fails {ret : Word} {s : State} {k : FaultKind} (h : Fails (enterBreak ret s) k) : AccessFault k := by
  unfold enterBreak at h
  rw [push16_eq, andThen_ok, push_eq, andThen_ok, andThen_fails] at h
  rcases h with h | ⟨_, _, -, h⟩
  · rcases readPair_fails.mp h with h | ⟨_, _, -, h⟩ <;> exact .inl ⟨_, _, h⟩
  · exact absurd h (fails_ok _ _)

/-! ## The shape of a target -/

/-- A target without its value. -/
inductive Shape where
  | noTarget | accumulator | value | address
  deriving DecidableEq

def Target.shape : Target → Shape
  | .noTarget => .noTarget
  | .accumulator => .accumulator
  | .value _ => .value
  | .address _ => .address

end Sys2Proof.Machine

namespace Sys2Proof

/-- The shape of the target a mode resolves to (R90). -/
def Mode.shape : Mode → Machine.Shape
  | .imp => .noTarget
  | .acc => .accumulator
  | .imm => .value
  | .zp | .zpx | .zpy | .rel | .abs | .absx | .absy | .ind | .indx | .indy => .address

end Sys2Proof

namespace Sys2Proof.Machine

/-- What the operand resolves to has the shape its mode says. -/
theorem resolve_shape {o : Operand} {s t : State} {r : Resolved} (h : resolve o s = .ok (r, t)) :
    r.target.shape = o.mode.shape := by
  cases o
  case ind | indx | indy =>
    simp only [resolve, andThen_eq_ok, Except.ok.injEq, Prod.mk.injEq] at h
    obtain ⟨_, _, -, rfl, -⟩ := h
    rfl
  all_goals
    cases h
    rfl

/-! ## Bodies that have a meaning for their mode

A body raises `bad` for the shapes its class has no meaning for. `modes` are the modes it may be handed. -/

section Bodies

variable {bad k : FaultKind} {tgt : Target} {s : State} {modes : List Mode} {mode : Mode}

theorem impliedBody_never_fails {f : State → State} (hall : ∀ md ∈ modes, md.shape = .noTarget) (hm : mode ∈ modes)
    (ht : tgt.shape = mode.shape) : ¬Fails (impliedBody bad f tgt s) k := by
  rw [hall mode hm] at ht
  cases tgt with
  | noTarget => exact fails_ok _ _
  | accumulator | value | address => cases ht

theorem accessBody_fails {f : State → Bus Unit} (hall : ∀ md ∈ modes, md.shape = .noTarget) (hm : mode ∈ modes)
    (ht : tgt.shape = mode.shape) (h : Fails (accessBody bad f tgt s) k) : Fails (f s) k := by
  rw [hall mode hm] at ht
  cases tgt with
  | noTarget =>
    rcases andThen_fails.mp h with h | ⟨_, _, -, h⟩
    · exact h
    · exact absurd h (fails_ok _ _)
  | accumulator | value | address => cases ht

theorem readBody_fails {f : Byte → State → State} (hall : ∀ md ∈ modes, md.shape = .value ∨ md.shape = .address)
    (hm : mode ∈ modes) (ht : tgt.shape = mode.shape) (h : Fails (readBody bad f tgt s) k) : AccessFault k := by
  have hshape := hall mode hm
  rw [← ht] at hshape
  cases tgt with
  | value m => exact absurd h (fails_ok _ _)
  | address ea =>
    rcases andThen_fails.mp h with h | ⟨_, _, -, h⟩
    · exact .inl ⟨ea, s, h⟩
    · exact absurd h (fails_ok _ _)
  | noTarget | accumulator => simp [Target.shape] at hshape

theorem writeBody_fails {v : State → Byte} (hall : ∀ md ∈ modes, md.shape = .address) (hm : mode ∈ modes)
    (ht : tgt.shape = mode.shape) (h : Fails (writeBody bad v tgt s) k) : AccessFault k := by
  rw [hall mode hm] at ht
  cases tgt with
  | address ea =>
    rcases andThen_fails.mp h with h | ⟨_, _, -, h⟩
    · exact .inr ⟨ea, v s, s, h⟩
    · exact absurd h (fails_ok _ _)
  | noTarget | accumulator | value => cases ht

theorem rmwBody_fails {r : Byte → State → Byte} {post : Byte → State → State}
    (hall : ∀ md ∈ modes, md.shape = .address) (hm : mode ∈ modes) (ht : tgt.shape = mode.shape)
    (h : Fails (rmwBody bad r post tgt s) k) : AccessFault k := by
  rw [hall mode hm] at ht
  cases tgt with
  | address ea =>
    rcases andThen_fails.mp h with h | ⟨m, s1, -, h⟩
    · exact .inl ⟨ea, s, h⟩
    rcases andThen_fails.mp h with h | ⟨_, _, -, h⟩
    · exact .inr ⟨ea, r m s1, s1, h⟩
    · exact absurd h (fails_ok _ _)
  | noTarget | accumulator | value => cases ht

theorem registerBody_never_fails {f : Byte → State → State} (hall : ∀ md ∈ modes, md.shape = .accumulator)
    (hm : mode ∈ modes) (ht : tgt.shape = mode.shape) : ¬Fails (registerBody bad f tgt s) k := by
  rw [hall mode hm] at ht
  cases tgt with
  | accumulator => exact fails_ok _ _
  | noTarget | value | address => cases ht

theorem branchBody_never_fails {cond : State → Bool} (hall : ∀ md ∈ modes, md.shape = .address) (hm : mode ∈ modes)
    (ht : tgt.shape = mode.shape) : ¬Fails (branchBody bad cond tgt s) k := by
  rw [hall mode hm] at ht
  cases tgt with
  | address target =>
    simp only [branchBody]
    split <;> exact fails_ok _ _
  | noTarget | accumulator | value => cases ht

theorem jumpBody_fails {f : Word → State → Bus Unit} (hall : ∀ md ∈ modes, md.shape = .address) (hm : mode ∈ modes)
    (ht : tgt.shape = mode.shape) (h : Fails (jumpBody bad f tgt s) k) : ∃ w, Fails (f w s) k := by
  rw [hall mode hm] at ht
  cases tgt with
  | address target =>
    rcases andThen_fails.mp h with h | ⟨_, _, -, h⟩
    · exact ⟨target, h⟩
    · exact absurd h (fails_ok _ _)
  | noTarget | accumulator | value => cases ht

/-- Accumulator mode is of class register alone (R115). -/
theorem acc_mem_modes {access : AccessClass} (h : .acc ∈ access.modes) : access = .register := by
  cases access <;> simp [AccessClass.modes] at h ⊢

/-- Implied mode is of class none alone (R115). -/
theorem imp_mem_modes {access : AccessClass} (h : .imp ∈ access.modes) : access = .none := by
  cases access <;> simp [AccessClass.modes] at h ⊢

/-- A mnemonic in a mode of its own rule and of its access class faults in a bus access or not at all (R115, R120). -/
theorem bodyOf_fails {m : Mnemonic} {access : AccessClass} (hm : mode ∈ m.modes) (ha : mode ∈ access.modes)
    (ht : tgt.shape = mode.shape) (h : Fails (bodyOf m access bad tgt s) k) : AccessFault k := by
  cases m
  case LDA | LDX | LDY | LAX | AND | ORA | EOR | BIT | CMP | CPX | CPY | ADC | SBC =>
    exact readBody_fails (by decide) hm ht h
  case TAX | TAY | TXA | TYA | TSX | TXS | INX | INY | DEX | DEY | CLC | SEC | CLI | SEI | CLD | SED | CLV =>
    exact absurd h (impliedBody_never_fails (by decide) hm ht)
  case NOP =>
    simp only [bodyOf] at h
    split at h
    case isTrue hnone =>
      subst hnone
      have himp : ∀ md ∈ Mnemonic.modes .NOP, md ∈ AccessClass.modes .none → md ∈ [Mode.imp] := by decide
      exact absurd h (impliedBody_never_fails (by decide) (himp mode hm ha) ht)
    case isFalse hnone =>
      have hne : mode ≠ .imp := fun he => hnone (imp_mem_modes (he ▸ ha))
      exact readBody_fails (modes := [.imm, .zp, .zpx, .abs, .absx]) (by decide) (List.mem_of_ne_of_mem hne hm) ht h
  case UNIMPLEMENTED => cases hm
  case STA | STX | STY | SAX => exact writeBody_fails (by decide) hm ht h
  case INC | DEC | DCP | ISB | SLO | RLA | SRE | RRA => exact rmwBody_fails (by decide) hm ht h
  case ASL | LSR | ROL | ROR =>
    simp only [bodyOf] at h
    split at h
    case isTrue hreg =>
      subst hreg
      exact absurd h (registerBody_never_fails (by decide) ha ht)
    case isFalse hreg =>
      have hne : mode ≠ .acc := fun he => hreg (acc_mem_modes (he ▸ ha))
      exact rmwBody_fails (modes := [.zp, .zpx, .abs, .absx]) (by decide) (List.mem_of_ne_of_mem hne hm) ht h
  case BCC | BCS | BEQ | BNE | BMI | BPL | BVC | BVS => exact absurd h (branchBody_never_fails (by decide) hm ht)
  case JMP =>
    obtain ⟨w, hf⟩ := jumpBody_fails (by decide) hm ht h
    exact absurd hf (fails_ok _ _)
  case JSR =>
    obtain ⟨w, hf⟩ := jumpBody_fails (by decide) hm ht h
    rw [jsrEffect_eq] at hf
    exact absurd hf (fails_ok _ _)
  case BRK =>
    have hf : Fails (enterBreak (s.pc + 1) s) k := accessBody_fails (f := brkEffect) (by decide) hm ht h
    exact enterBreak_fails hf
  case PHA | PHP | PLA | PLP | RTS | RTI =>
    have hf := accessBody_fails (by decide) hm ht h
    simp only [phaEffect_eq, phpEffect_eq, plaEffect_eq, plpEffect_eq, rtsEffect_eq, rtiEffect, leaveBreak_eq] at hf
    exact absurd hf (fails_ok _ _)

end Bodies

/-! ## The rows of the table -/

/-- An implemented row pairs its mnemonic with a mode of its rule and of its access class, at a base cost of 2 to 8
(R80, R115, R120). -/
theorem row_sound {i : Instr} (hi : i.row.implemented = true) :
    i.row.operand.mode ∈ i.row.mnemonic.modes ∧ i.row.operand.mode ∈ i.row.access.modes ∧
      2 ≤ i.row.cycles ∧ i.row.cycles ≤ 8 := by
  have hwf : i.row.wf = true := (Laws.RowSound.all i).1.trans hi
  simpa [Row.wf, Row.modeDefined, Row.classFits, Row.costInRange, and_assoc] using hwf

/-- An implemented instruction faults in a bus access or not at all. -/
theorem exec_stops_access {i : Instr} {s : State} {k : FaultKind} (hi : i.row.implemented = true)
    (h : Stops (exec i s) k) : AccessFault k := by
  rw [exec_eq i s hi] at h
  rcases execute_stops.mp h with h | ⟨r, s1, hres, h⟩
  · exact .inl (resolve_fails h)
  · obtain ⟨hm, ha, -⟩ := row_sound hi
    exact bodyOf_fails hm ha (resolve_shape hres) h

theorem exec_not_unsupportedMode (i : Instr) (s : State) (pc : Word) (op : Byte) :
    ¬Stops (exec i s) (.unsupportedMode pc op) := by
  intro h
  cases hi : i.row.implemented with
  | false =>
    obtain ⟨_, h⟩ := h
    rw [exec_unimplemented i s hi] at h
    cases h
  | true => exact (exec_stops_access hi h).ne_unsupportedMode pc op rfl

/-- Settles O12: a body is handed only the modes its row's checks allow, so each fault is that of a bus access or of an
unimplemented byte. -/
theorem unsupportedModeUnreachable : Obligations.UnsupportedModeUnreachable := by
  refine ⟨exec_not_unsupportedMode, fun s pc op hs h => ?_⟩
  rcases (step_stops hs).mp h with hfetch | ⟨i, s1, -, hexec⟩
  · exact AccessFault.ne_unsupportedMode (.inl (fetch_fails hfetch)) pc op rfl
  · exact exec_not_unsupportedMode i s1 pc op hexec

end Sys2Proof.Machine
end

section
namespace Sys2Proof

/-! ## The cost of a step -/

/-- The highest cost of a row: its base cycles, one for a page cross where it has that penalty, two for a branch taken to
another page (R104, R117, R200). -/
def Row.maxCost (r : Row) : Nat := r.cycles + r.pagePenalty.toNat + 2 * r.branchPenalty.toNat

/-- The rows at 7 and 8 base cycles have no penalty, and only branches have an extra. -/
theorem row_maxCost_le (i : Instr) : i.row.maxCost ≤ 8 := by
  have h : i.row.maxCost.ble 8 = true := by cases i <;> rfl
  exact Nat.le_of_ble_eq_true h

end Sys2Proof

namespace Sys2Proof.Machine

/-- Only the branches have an extra cost, of at most 2 cycles (R200). -/
theorem bodyOf_extra {m : Mnemonic} {access : AccessClass} {bad : FaultKind} {tgt : Target} {s t : State} {n : Nat}
    (h : bodyOf m access bad tgt s = .ok (n, t)) : n = 0 ∨ n ≤ 2 ∧ m.modes = [.rel] := by
  cases m
  case LDA | LDX | LDY | LAX | AND | ORA | EOR | BIT | CMP | CPX | CPY | ADC | SBC => exact .inl (readBody_ok h).1
  case TAX | TAY | TXA | TYA | TSX | TXS | INX | INY | DEX | DEY | CLC | SEC | CLI | SEI | CLD | SED | CLV =>
    exact .inl (impliedBody_ok h).1
  case NOP =>
    simp only [bodyOf] at h
    split at h
    · exact .inl (impliedBody_ok h).1
    · exact .inl (readBody_ok h).1
  case UNIMPLEMENTED => cases h
  case STA | STX | STY | SAX => exact .inl (writeBody_ok h).1
  case INC | DEC | DCP | ISB | SLO | RLA | SRE | RRA => exact .inl (rmwBody_ok h).1
  case ASL | LSR | ROL | ROR =>
    simp only [bodyOf] at h
    split at h
    · exact .inl (registerBody_ok h).1
    · exact .inl (rmwBody_ok h).1
  case BCC | BCS | BEQ | BNE | BMI | BPL | BVC | BVS => exact .inr ⟨(branchBody_ok h).1, rfl⟩
  case JMP | JSR => exact .inl (jumpBody_ok h).1
  case BRK | PHA | PHP | PLA | PLP | RTS | RTI => exact .inl (accessBody_ok h).1

/-- The cost of a row whose extra is within its branch penalty. -/
theorem cost_le_maxCost (i : Instr) (crossed : Bool) {n : Nat} (hn : n ≤ 2 * i.row.branchPenalty.toNat) :
    Instr.cost i crossed n ≤ i.row.maxCost := by
  have hpage : (if crossed && i.row.pagePenalty then 1 else 0) ≤ i.row.pagePenalty.toNat := by
    cases crossed <;> cases i.row.pagePenalty <;> decide
  unfold Instr.cost Row.maxCost
  omega

/-- A completed instruction adds 2 to 8 cycles to the counter (R117). -/
theorem exec_cycles {i : Instr} {s t : State} (h : exec i s = .next t) :
    ∃ n, 2 ≤ n ∧ n ≤ 8 ∧ t.cycles = s.cycles + BitVec.ofNat 64 n := by
  obtain ⟨hi, r, s1, n, s2, hres, hbody, rfl⟩ := exec_next h
  obtain ⟨hm, -, hlow, -⟩ := row_sound hi
  have hcycles : s2.cycles = s.cycles := by
    have h1 : s1.cycles = s.cycles := by rw [resolve_state hres]; rfl
    have h2 : s2.cycles = s1.cycles := bodyOf_sameBut hbody .cycles id
    exact h2.trans h1
  have hn : n ≤ 2 * i.row.branchPenalty.toNat := by
    rcases bodyOf_extra hbody with rfl | ⟨hn, hrel⟩
    · exact Nat.zero_le _
    · rw [hrel, List.mem_singleton] at hm
      simpa [Row.branchPenalty, hm] using hn
  refine ⟨Instr.cost i r.crossed n, ?_, (cost_le_maxCost i _ hn).trans (row_maxCost_le i), ?_⟩
  · unfold Instr.cost
    omega
  · rw [State.credit_cycles, hcycles]

/-- Settles O13: the fetch leaves the counter alone, and the instruction adds 2 to 8. -/
theorem stepCostsTwoToEight : Obligations.StepCostsTwoToEight := by
  intro s t h
  obtain ⟨-, i, s1, hf, he⟩ := step_eq_next.mp h
  obtain ⟨n, hlow, hhigh, hn⟩ := exec_cycles he
  have hs1 : s1.cycles = s.cycles := by rw [fetch_state hf]; rfl
  have hcost : (stepCost s t).toNat = n := by
    rw [stepCost, hn, hs1, add_sub_cancel_left, BitVec.toNat_ofNat, Nat.mod_eq_of_lt (by omega)]
  rw [hcost]
  exact ⟨hlow, hhigh⟩

end Sys2Proof.Machine
end

section
namespace Sys2Proof.Machine

/-! ## Stored bytes -/

/-- Where the stores, the cartridge and the parameters are the same, so is every byte. -/
theorem sameMemory_of_same {s t : State} (hr : t.ram = s.ram) (ha : t.apu = s.apu) (hc : t.cart = s.cart)
    (hp : t.params = s.params) : SameMemory s t := by
  intro b
  simp only [State.peek, State.target, hr, ha, hc, hp]

/-- In the table, the mnemonics that write EA are the rows of classes write and rmw (R115). -/
theorem writesEA_iff (i : Instr) :
    WritesEA i.row.mnemonic i.row.access ↔ i.row.access = .write ∨ i.row.access = .rmw := by
  unfold WritesEA
  exact decide_eq_decide.mp (by cases i <;> rfl)

/-- Settles O54: the frame of the instruction at both stores. -/
theorem nonStoringInstructionsKeepMemory : Obligations.NonStoringInstructionsKeepMemory := by
  intro i s t h hwrite hrmw hpush
  have hEA : ¬WritesEA i.row.mnemonic i.row.access := (writesEA_iff i).not.mpr (not_or.mpr ⟨hwrite, hrmw⟩)
  obtain ⟨hc, hp, -⟩ := exec_fixed h
  have hram : t.ram = s.ram := exec_same h .ram (by decide) (not_or.mpr ⟨hEA, hpush⟩)
  have hapu : t.apu = s.apu := exec_same h .apu (by decide) hEA
  exact sameMemory_of_same hram hapu hc hp

section StoreFrames

variable {bad : FaultKind} {tgt : Target} {s t : State} {n : Nat}

theorem writeBody_frame {v : State → Byte} (h : writeBody bad v tgt s = .ok (n, t)) :
    ∃ ea, tgt = .address ea ∧ SameMemoryBut [ea] s t := by
  obtain ⟨-, ea, htgt, hw⟩ := writeBody_ok h
  exact ⟨ea, htgt, memWrite_frame hw⟩

theorem rmwBody_frame {r : Byte → State → Byte} {post : Byte → State → State}
    (h : rmwBody bad r post tgt s = .ok (n, t)) (hp : ∀ m u, SameMemory u (post m u)) :
    ∃ ea, tgt = .address ea ∧ SameMemoryBut [ea] s t := by
  obtain ⟨-, ea, m, s1, s2, htgt, hr, hw, rfl⟩ := rmwBody_ok h
  obtain ⟨l, rfl⟩ : ∃ l, s1 = s.withLog l := ⟨_, memRead_state hr⟩
  have hframe := memWrite_frame hw
  exact ⟨ea, htgt, fun b hb => (hp m s2 b).trans (hframe b hb)⟩

/-- A body that writes EA changes that cell alone (R115 e, f). -/
theorem bodyOf_frame {m : Mnemonic} {access : AccessClass} (hEA : WritesEA m access)
    (h : bodyOf m access bad tgt s = .ok (n, t)) : ∃ ea, tgt = .address ea ∧ SameMemoryBut [ea] s t := by
  cases m
  case STA | STX | STY | SAX => exact writeBody_frame h
  case INC | DEC | DCP | ISB | SLO | RLA | SRE | RRA => exact rmwBody_frame h fun _ _ _ => rfl
  case ASL | LSR | ROL | ROR =>
    have hacc : access ≠ .register := by simpa [WritesEA] using hEA
    simp only [bodyOf, hacc, if_false] at h
    exact rmwBody_frame h fun _ _ _ => rfl
  all_goals exact absurd hEA (by simp [WritesEA])

end StoreFrames

/-- Settles O55: classes write and rmw write once, at the address the operand resolves to. -/
theorem storingInstructionsChangeOneCell : Obligations.StoringInstructionsChangeOneCell := by
  intro i s t h haccess
  obtain ⟨-, ⟨tgt, crossed⟩, s1, n, s2, hres, hbody, rfl⟩ := exec_next h
  obtain ⟨l, rfl⟩ : ∃ l, s1 = (s.pastOperand i).withLog l := ⟨_, resolve_state hres⟩
  obtain ⟨ea, rfl, hframe⟩ := bodyOf_frame ((writesEA_iff i).mpr haccess) hbody
  exact ⟨ea, crossed, _, hres, hframe⟩

end Sys2Proof.Machine
end

section
namespace Sys2Proof.Machine

/-! ## The fetch -/

/-- An unmarked step whose fetch completes is exec of what was fetched (R110). -/
theorem step_of_fetch {s t : State} {i : Instr} (hs : s.faultMark = none) (hf : fetch s = .ok (i, t)) :
    step s = exec i t := by
  simp only [step, hs, hf]

/-- Settles O5: the fetch reads the bytes the decoder asks for, with no side effect where they are peeked. -/
theorem stepRunsDecodedInstruction : Obligations.StepRunsDecodedInstruction :=
  ⟨fun _ _ _ _ hs hd hf => step_of_fetch hs (fetch_of_bytes hd hf),
    fun _ _ _ hs hd hpeek => step_of_fetch hs (fetch_of_bytes hd (fetches_of_peek _ _ hpeek))⟩

/-- An instruction is its opcode and its operand bytes (R70, R71). -/
theorem length_eq_bytes (i : Instr) : i.length = i.row.operand.bytes.length + 1 := (Laws.RowSound.all i).2.symm

/-- The fetch fails where the read of the next byte of an instruction does: the opcode, or an operand byte after the opcode
and the operand bytes so far (R111, R113). -/
theorem fetch_fails_of_memRead {s t : State} {i : Instr} {pre : List Byte} {k : FaultKind}
    (hpre : pre = [] ∨ pre.head? = some i.row.opcode) (hlen : pre.length < i.length) (hf : FetchesBytes s.pc pre s t)
    (h : Fails (memRead (s.pc + BitVec.ofNat 16 pre.length) t) k) : Fails (fetch s) k := by
  match pre with
  | [] =>
    cases hf
    rw [List.length_nil, BitVec.add_zero] at h
    exact andThen_fails.mpr (.inl h)
  | op :: rest =>
    obtain ⟨s1, hop, hf⟩ := hf
    obtain rfl : op = i.row.opcode := by simpa using hpre
    have hyields := lookup_opcode_yields i
    rw [length_eq_bytes, List.length_cons, Nat.add_lt_add_iff_right] at hlen
    refine andThen_fails.mpr (.inr ⟨_, s1, hop, ?_⟩)
    generalize i.row.operand.bytes = operand at hyields hlen
    generalize lookup i.row.opcode = e at hyields ⊢
    match rest with
    | [] =>
      cases hf
      have hfirst : Fails (fetchOperand s.pc 1 t) k := memRead_setPC_fails.mpr h
      cases hyields with
      | op0 => simp at hlen
      | op1 | op2 => exact andThen_fails.mpr (.inl hfirst)
    | [b] =>
      obtain ⟨s2, hb, hf⟩ := hf
      cases hf
      have hsecond : Fails (fetchOperand s.pc 2 (t.setPC (s.pc + BitVec.ofNat 16 1))) k :=
        memRead_setPC_fails.mpr (memRead_setPC_fails.mpr h)
      cases hyields with
      | op0 | op1 => simp at hlen
      | op2 => exact andThen_fails.mpr (.inr ⟨b, _, fetchOperand_of_memRead hb, andThen_fails.mpr (.inl hsecond)⟩)
    | _ :: _ :: _ => cases hyields <;> simp at hlen

/-- The fetch of a byte with no store behind it ends the step (R48, R49, R111, R113). -/
theorem step_stops_at_byte {s t : State} {i : Instr} {pre : List Byte} {a : Word} (hs : s.faultMark = none)
    (hpre : pre = [] ∨ pre.head? = some i.row.opcode) (hlen : pre.length < i.length) (hf : FetchesBytes s.pc pre s t)
    (ha : a = s.pc + BitVec.ofNat 16 pre.length) :
    (0x4018 ≤ a.toNat ∧ a.toNat ≤ 0x7FFF → Stops (step s) (.unmappedAddress a .read)) ∧
    (∀ off, s.target a = .prg off → readPRG s.cart off = none → Stops (step s) (.configError off)) := by
  subst ha
  have hstop : ∀ k, Fails (memRead _ t) k → Stops (step s) k := fun k h =>
    (step_stops hs).mpr (.inl (fetch_fails_of_memRead hpre hlen hf h))
  obtain ⟨l, rfl⟩ : ∃ l, t = s.withLog l := ⟨_, fetches_state hf⟩
  exact ⟨fun hrange => hstop _ ⟨_, memRead_unmapped (target_eq_unmapped.mpr hrange)⟩,
    fun off ht hnone => hstop _ ⟨_, memRead_prg_none (s := s.withLog l) ht hnone⟩⟩

/-- Settles O6: the opcode is the byte before which nothing was fetched, whatever the instruction. -/
theorem opcodeFetchFaults : Obligations.OpcodeFetchFaults :=
  ⟨fun s hs => step_stops_at_byte (i := .nop) (pre := []) hs (.inl rfl) (by decide) rfl (BitVec.add_zero s.pc).symm,
    fun _ _ _ _ _ hs hpre hlen hf ha => step_stops_at_byte hs hpre hlen hf ha⟩

end Sys2Proof.Machine
end

section
namespace Sys2Proof.Machine

/-! ## Forms and rows -/

/-- The form lists the row of its instruction (opcode, length, base cycles), which is an implemented one of the mnemonic in one
of the classes. -/
def Form.lists (m : Mnemonic) (classes : List AccessClass) (f : Form) : Bool :=
  f.instr.row.implemented && f.instr.row.opcode == f.opcode && f.instr.length == f.length &&
    f.instr.row.cycles == f.cycles && f.instr.row.mnemonic == m && classes.contains f.instr.row.access

section Forms

variable {m : Mnemonic} {classes : List AccessClass} {f : Form}

theorem Form.lists_iff : f.lists m classes = true ↔
    f.instr.row.implemented = true ∧ f.instr.row.opcode = f.opcode ∧ f.instr.length = f.length ∧
      f.instr.row.cycles = f.cycles ∧ f.instr.row.mnemonic = m ∧ f.instr.row.access ∈ classes := by
  simp [Form.lists, and_assoc]

/-- The common part of the next state, update by update (R113, R117). -/
theorem Form.lists_after (hf : f.lists m classes = true) (s : State) (n : Nat) (log : List PpuEvent) :
    s.after f n log = ((s.pastOperand f.instr).withLog log).credit (f.instr.row.cycles + n) := by
  obtain ⟨-, -, hlen, hcyc, -⟩ := Form.lists_iff.mp hf
  rw [State.after, ← hlen, ← hcyc]
  rfl

/-- A listed instruction runs the body of its mnemonic. -/
theorem Form.lists_exec (hf : f.lists m classes = true) (s : State) :
    exec f.instr s = execute f.instr (bodyOf m f.instr.row.access (badMode f.instr s)) s := by
  obtain ⟨himpl, -, -, -, rfl, -⟩ := Form.lists_iff.mp hf
  exact exec_eq f.instr s himpl

end Forms

/-! ## Loads -/

/-- The forms of a mnemonic whose body reads its operand: the next state is that of its effect on the common part, and a fault
is that of the read (R110, R115 c, d, R117). -/
theorem exec_readForms {m : Mnemonic} {forms : List Form} (effect : Byte → State → State)
    (hforms : forms.all (Form.lists m [.read, .immediate]) = true)
    (hbody : ∀ access bad, bodyOf m access bad = readBody bad effect)
    (hcredit : ∀ b u n, (effect b u).credit n = effect b (u.credit n)) (s : State) :
    ∀ f ∈ forms, f.instr.row.opcode = f.opcode ∧
      (∀ b crossed s1, Supplies f.instr s b crossed s1 →
        exec f.instr s = .next (effect b (s.after f crossed.toNat s1.ppuLog))) ∧
      (∀ k, ReadFaults f.instr s k → Stops (exec f.instr s) k) := by
  intro f hmem
  have hf : f.lists m [.read, .immediate] = true := List.all_eq_true.mp hforms f hmem
  obtain ⟨-, hop, -, -, -, haccess⟩ := Form.lists_iff.mp hf
  have hexec : exec f.instr s = execRead f.instr effect s := by
    rw [Form.lists_exec hf, hbody]
    rfl
  refine ⟨hop, fun b crossed s1 h => ?_, fun k h => ?_⟩
  · rw [hexec, execRead_eq effect (by simpa using haccess) h, Form.lists_after hf, hcredit]
  · rw [hexec]
    exact execRead_of_faults effect h

/-- Settles O24: LDA's body reads its operand in every mode, and `loadA` is the effect. -/
theorem ldaLoadsA : Obligations.LdaLoadsA := fun _ _ s =>
  exec_readForms (m := .LDA) loadA rfl (fun _ _ => rfl) (fun _ _ _ => rfl) s

/-- Settles O25: as for LDA, with the effects `loadX` and `loadY`. -/
theorem ldxLdyLoadIndexRegisters : Obligations.LdxLdyLoadIndexRegisters := fun _ _ s =>
  ⟨exec_readForms (m := .LDX) loadX rfl (fun _ _ => rfl) (fun _ _ _ => rfl) s,
    exec_readForms (m := .LDY) loadY rfl (fun _ _ => rfl) (fun _ _ _ => rfl) s⟩

/-! ## Stores -/

/-- A form of a mnemonic whose body writes one byte to EA: the next state is the common part with the stores of that write, and
a fault is that of the write (R115 e, R117). -/
theorem exec_writeForm {m : Mnemonic} {f : Form} {s : State} (v : State → Byte) (hf : f.lists m [.write] = true)
    (hbody : ∀ access bad, bodyOf m access bad = writeBody bad v) (hv : v (s.pastOperand f.instr) = v s) :
    f.instr.row.opcode = f.opcode ∧ ∃ ea crossed s1, Addresses f.instr s ea crossed s1 ∧
      (writable s ea = true → ∃ t, memWrite ea (v s) s1 = .ok ((), t) ∧
        exec f.instr s = .next { s.after f 0 t.ppuLog with ram := t.ram, apu := t.apu }) ∧
      (∀ k, Fails (memWrite ea (v s) s1) k → Stops (exec f.instr s) k) := by
  obtain ⟨-, hop, -, -, -, haccess⟩ := Form.lists_iff.mp hf
  have hwrite : f.instr.row.access = .write := List.mem_singleton.mp haccess
  have hexec : exec f.instr s = execWrite f.instr v s := by
    rw [Form.lists_exec hf, hbody]
    rfl
  obtain ⟨ea, crossed, s1, haddr, rfl⟩ := addresses_of_write (.inl hwrite) s
  rw [hexec, ← hv]
  refine ⟨hop, ea, crossed, _, haddr, fun hw => ?_, fun k h => execWrite_fault v haddr h⟩
  obtain ⟨t, ht⟩ := (memWrite_isOk ea (v (s.pastOperand f.instr)) (s.pastOperand f.instr)).mpr hw
  refine ⟨t, ht, ?_⟩
  rw [execWrite_next v hwrite haddr ht, Form.lists_after hf, memWrite_state ht]
  rfl

/-- Settles O26: each row is a form of a mnemonic whose body writes the byte listed with it. -/
theorem storesWriteEA : Obligations.StoresWriteEA := by
  intro nn a s
  rw [← List.forall_iff_forall_mem]
  have sta {f : Form} (hf : f.lists .STA [.write] = true) :=
    exec_writeForm (s := s) storedA hf (fun _ _ => rfl) rfl
  have stx {f : Form} (hf : f.lists .STX [.write] = true) :=
    exec_writeForm (s := s) storedX hf (fun _ _ => rfl) rfl
  have sty {f : Form} (hf : f.lists .STY [.write] = true) :=
    exec_writeForm (s := s) storedY hf (fun _ _ => rfl) rfl
  have sax {f : Form} (hf : f.lists .SAX [.write] = true) :=
    exec_writeForm (s := s) storedAX hf (fun _ _ => rfl) rfl
  exact ⟨sta rfl, sta rfl, sta rfl, sta rfl, sta rfl, sta rfl, sta rfl, stx rfl, stx rfl, stx rfl, sty rfl, sty rfl,
    sty rfl, sax rfl, sax rfl, sax rfl, sax rfl⟩

/-! ## Transfers -/

/-- Settles O27: each transfer is class none, and its effect is the copy with or without SetZN. -/
theorem transfersCopyRegisters : Obligations.TransfersCopyRegisters := fun _ =>
  ⟨⟨rfl, rfl, rfl, rfl, rfl, rfl⟩,
    execImplied_eq (i := .tax) taxEffect rfl (by decide),
    execImplied_eq (i := .tay) tayEffect rfl (by decide),
    execImplied_eq (i := .txa) txaEffect rfl (by decide),
    execImplied_eq (i := .tya) tyaEffect rfl (by decide),
    execImplied_eq (i := .tsx) tsxEffect rfl (by decide),
    execImplied_eq (i := .txs) txsEffect rfl (by decide)⟩

end Sys2Proof.Machine
end

section
namespace Sys2Proof.Machine

/-! ## Pushes and pulls -/

/-- PHA pushes A (R150). -/
theorem exec_pha (s : State) : exec .pha s = .next ({ s.pastOperand .pha with
    sp := s.sp - 1, ram := s.ram.set (0x100 + s.sp.toNat) s.a }.credit 3) :=
  execAccess_next (i := .pha) rfl (by decide) (phaEffect_eq _)

/-- PLA loads the pulled byte into A and sets Z and N (R152). -/
theorem exec_pla (s : State) : exec .pla s = .next ({ s.pastOperand .pla with
    sp := s.sp + 1, a := s.ram.get (0x100 + (s.sp + 1).toNat)
    flags := s.flags.setZN (s.ram.get (0x100 + (s.sp + 1).toNat)) }.credit 4) :=
  execAccess_next (i := .pla) rfl (by decide) (plaEffect_eq _)

/-- Settles O28: PHP's byte is Pack(1), whose bits are the flags with 1 at bits 4 and 5. -/
theorem pushesStoreOnStack : Obligations.PushesStoreOnStack := fun s =>
  ⟨⟨rfl, rfl⟩, exec_pha s, s.flags.pack true, exec_php s, by simp [BitVec.getLsbD_eq_getElem]⟩

/-- Settles O29: the byte pulled is the one in the slot above SP. -/
theorem pullsLoadFromStack : Obligations.PullsLoadFromStack := by
  refine ⟨⟨rfl, rfl⟩, fun s m hm => ?_⟩
  rw [ofNat_stackAddr, peek_stackAddr] at hm
  cases hm
  exact ⟨exec_pla s, exec_plp s⟩

end Sys2Proof.Machine
end

section
namespace Sys2Proof

/-! ## The sign bit of a byte -/

/-- The overflow formulas mask the sign bit. -/
theorem and_0x80_bne_zero (b : Byte) : ((b &&& 0x80) != 0) = b.msb := by
  rw [show (0x80 : Byte) = BitVec.twoPow 8 7 from rfl, BitVec.and_twoPow, BitVec.msb_eq_getLsbD_last]
  cases b.getLsbD 7 <;> rfl

/-- The complement, as R161 writes it, is 255 less the byte. -/
theorem toNat_xor_0xFF (b : Byte) : (b ^^^ 0xFF).toNat = 0xFF - b.toNat := by
  rw [show (0xFF : Byte) = BitVec.allOnes 8 from rfl, BitVec.xor_allOnes, BitVec.toNat_not]

theorem msb_xor_0xFF (b : Byte) : (b ^^^ 0xFF).msb = !b.msb := by
  rw [show (0xFF : Byte) = BitVec.allOnes 8 from rfl, BitVec.xor_allOnes, BitVec.msb_not]
  rfl

end Sys2Proof

namespace Sys2Proof.Machine

/-! ## The ALU core functions -/

theorem Flags.eq_of_fields {f g : Flags} (hc : f.c = g.c) (hz : f.z = g.z) (hi : f.i = g.i) (hd : f.d = g.d)
    (hv : f.v = g.v) (hn : f.n = g.n) : f = g := by
  cases f
  cases g
  simp_all

section Alu

variable (a m : Byte) (f : Flags)

/-- The result of AddCore is the sum modulo 256 (R160). -/
theorem toNat_addCore : (addCore a m f).1.toNat = (a.toNat + m.toNat + f.c.toNat) % 0x100 := BitVec.toNat_ofNat _ _

/-- V of AddCore by sign bits: that of the result is neither that of `a` nor that of `m` (R160). -/
theorem addCore_v_eq_msb :
    (addCore a m f).2.v = ((a.msb != (addCore a m f).1.msb) && (m.msb != (addCore a m f).1.msb)) := by
  rw [Bool.bne_eq_xor, ← BitVec.msb_xor, ← BitVec.msb_xor, ← BitVec.msb_and]
  exact and_0x80_bne_zero _

/-- V of AddCore is the signed overflow: the signed sum is outside the range of a byte (R160). -/
theorem addCore_v : (addCore a m f).2.v =
    decide (a.toInt + m.toInt + f.c.toNat < -128 ∨ 127 < a.toInt + m.toInt + f.c.toNat) := by
  have hc : f.c.toNat ≤ 1 := Bool.toNat_le f.c
  have ha : a.toNat < 0x100 := a.isLt
  have hm : m.toNat < 0x100 := m.isLt
  rw [addCore_v_eq_msb, Bool.eq_iff_iff]
  simp only [BitVec.msb_eq_decide, BitVec.toInt_eq_toNat_cond, toNat_addCore, Bool.and_eq_true, bne_iff_ne, ne_eq,
    decide_eq_decide, decide_eq_true_eq]
  omega

/-- V of SubCore by sign bits: that of `a` is neither that of `m` nor that of the result (R161). -/
theorem subCore_v_eq_msb : (subCore a m f).2.v = ((a.msb != m.msb) && (a.msb != (subCore a m f).1.msb)) := by
  rw [Bool.bne_eq_xor, ← BitVec.msb_xor, ← BitVec.msb_xor, ← and_0x80_bne_zero, ← and_0x80_bne_zero]
  rfl

/-- Subtracting with borrow is adding the complement with carry (R161). -/
theorem subCore_eq_addCore : subCore a m f = addCore a (m ^^^ 0xFF) f := by
  have hm : m.toNat < 0x100 := m.isLt
  have hnot := toNat_xor_0xFF m
  have hr : (subCore a m f).1 = (addCore a (m ^^^ 0xFF) f).1 := by
    apply BitVec.eq_of_toNat_eq
    rw [toNat_addCore, subCore, BitVec.toNat_ofInt]
    omega
  have hc : (subCore a m f).2.c = (addCore a (m ^^^ 0xFF) f).2.c := by
    apply decide_eq_decide.mpr
    omega
  have hsigns : ∀ x y z : Bool, ((x != y) && (x != z)) = ((x != z) && ((!y) != z)) := by decide
  have hv : (subCore a m f).2.v = (addCore a (m ^^^ 0xFF) f).2.v := by
    rw [subCore_v_eq_msb, addCore_v_eq_msb, hr, msb_xor_0xFF, hsigns]
  exact Prod.ext hr (Flags.eq_of_fields hc (congrArg (· == 0) hr) rfl rfl hv (congrArg BitVec.msb hr))

end Alu

/-- Settles O58: D is a field that AddCore hands through. -/
theorem aluCoresAgree : Obligations.AluCoresAgree := fun a m f _ =>
  ⟨subCore_eq_addCore a m f, addCore_v a m f, rfl, rfl⟩

end Sys2Proof.Machine
end

section
namespace Sys2Proof.Machine

/-! ## Arithmetic, logic and compare: the instructions that read their operand -/

/-- Settles O30: ADC's effect is AddCore on A, whose V is the signed overflow. -/
theorem adcAddsWithCarry : Obligations.AdcAddsWithCarry := by
  intro nn a s f hf
  obtain ⟨hop, hnext, hfault⟩ := exec_readForms (m := .ADC) adcEffect rfl (fun _ _ => rfl) (fun _ _ _ => rfl) s f hf
  refine ⟨hop, fun m crossed s1 t r h ht hr => ?_, hfault⟩
  subst ht
  obtain rfl : r = (addCore s.a m s.flags).1 := hr
  rw [hnext m crossed s1 h, ← addCore_v]
  rfl

/-- Settles O31: SBC's effect is SubCore on A. -/
theorem sbcSubtractsWithBorrow : Obligations.SbcSubtractsWithBorrow := by
  intro nn a s f hf
  obtain ⟨hop, hnext, hfault⟩ := exec_readForms (m := .SBC) sbcEffect rfl (fun _ _ => rfl) (fun _ _ _ => rfl) s f hf
  refine ⟨hop, fun m crossed s1 t r h ht hr => ?_, hfault⟩
  subst ht
  obtain rfl : r = (subCore s.a m s.flags).1 := hr
  rw [hnext m crossed s1 h, ← subCore_v_eq_msb]
  rfl

/-- One form of a mnemonic whose body reads its operand, as in `exec_readForms`. -/
theorem exec_readForm {m : Mnemonic} {f : Form} {s : State} (effect : Byte → State → State)
    (hf : f.lists m [.read, .immediate] = true) (hbody : ∀ access bad, bodyOf m access bad = readBody bad effect)
    (hcredit : ∀ b u n, (effect b u).credit n = effect b (u.credit n)) :
    f.instr.row.opcode = f.opcode ∧
      (∀ b crossed s1, Supplies f.instr s b crossed s1 →
        exec f.instr s = .next (effect b (s.after f crossed.toNat s1.ppuLog))) ∧
      (∀ k, ReadFaults f.instr s k → Stops (exec f.instr s) k) :=
  exec_readForms (forms := [f]) effect (by simpa using hf) hbody hcredit s f (List.mem_singleton_self f)

/-- A form whose effect combines A with its operand and sets Z and N (R165 to R167). -/
theorem exec_logicForm {m : Mnemonic} {f : Form} {s : State} (op : Byte → Byte → Byte)
    (hf : f.lists m [.read, .immediate] = true)
    (hbody : ∀ access bad, bodyOf m access bad = readBody bad fun b u => (u.setA (op u.a b)).setZN (op u.a b)) :
    f.instr.row.opcode = f.opcode ∧
      (∀ b crossed s1 r, Supplies f.instr s b crossed s1 → r = op s.a b →
        exec f.instr s = .next { s.after f crossed.toNat s1.ppuLog with
          a := r, flags := { s.flags with z := r == 0, n := r.msb } }) ∧
      (∀ k, ReadFaults f.instr s k → Stops (exec f.instr s) k) := by
  obtain ⟨hop, hnext, hfault⟩ := exec_readForm (s := s) _ hf hbody fun _ _ _ => rfl
  refine ⟨hop, fun b crossed s1 r h hr => ?_, hfault⟩
  subst hr
  exact hnext b crossed s1 h

/-- Settles O32: each row is a form of AND, ORA or EOR. -/
theorem logicCombinesWithA : Obligations.LogicCombinesWithA := by
  intro nn a s
  rw [← List.forall_iff_forall_mem]
  have and {f : Form} (hf : f.lists .AND [.read, .immediate] = true) :=
    exec_logicForm (s := s) (fun u v => u &&& v) hf fun _ _ => rfl
  have ora {f : Form} (hf : f.lists .ORA [.read, .immediate] = true) :=
    exec_logicForm (s := s) (fun u v => u ||| v) hf fun _ _ => rfl
  have eor {f : Form} (hf : f.lists .EOR [.read, .immediate] = true) :=
    exec_logicForm (s := s) (fun u v => u ^^^ v) hf fun _ _ => rfl
  exact ⟨and rfl, and rfl, and rfl, and rfl, and rfl, and rfl, and rfl, and rfl, ora rfl, ora rfl, ora rfl, ora rfl,
    ora rfl, ora rfl, ora rfl, ora rfl, eor rfl, eor rfl, eor rfl, eor rfl, eor rfl, eor rfl, eor rfl, eor rfl⟩

/-- Only the modes with an indexed 16-bit address report a page cross (R90). -/
theorem Supplies.not_crossed {i : Instr} {s s1 : State} {m : Byte} {crossed : Bool} (h : Supplies i s m crossed s1)
    (hmode : i.row.operand.mode ∉ [Mode.absx, .absy, .indy]) : crossed = false := by
  rw [← Bool.not_eq_true]
  intro hc
  rcases h with h | ⟨ea, s0, h, -⟩ <;> simp [resolve_crossed h hc] at hmode

/-- Settles O33: `bitEffect` writes flags alone, and neither of BIT's modes reports a page cross. -/
theorem bitTestsMemory : Obligations.BitTestsMemory := by
  intro nn a s f hf
  obtain ⟨hop, hnext, hfault⟩ := exec_readForms (m := .BIT) bitEffect rfl (fun _ _ => rfl) (fun _ _ _ => rfl) s f hf
  refine ⟨hop, fun m crossed s1 h => ?_, hfault⟩
  have hmode : f.instr.row.operand.mode ∉ [Mode.absx, .absy, .indy] := by
    rcases List.mem_pair.mp hf with rfl | rfl <;> simp [Instr.row, Operand.mode]
  obtain rfl := h.not_crossed hmode
  exact hnext m false s1 h

/-- Settles O34: each row is a form of CMP, CPX or CPY, whose effects are Compare on the register listed with it. -/
theorem comparesSetFlags : Obligations.ComparesSetFlags := by
  intro nn a s
  rw [← List.forall_iff_forall_mem]
  have cmp {f : Form} (hf : f.lists .CMP [.read, .immediate] = true) :=
    exec_readForm (s := s) cmpEffect hf (fun _ _ => rfl) (fun _ _ _ => rfl)
  have cpx {f : Form} (hf : f.lists .CPX [.read, .immediate] = true) :=
    exec_readForm (s := s) cpxEffect hf (fun _ _ => rfl) (fun _ _ _ => rfl)
  have cpy {f : Form} (hf : f.lists .CPY [.read, .immediate] = true) :=
    exec_readForm (s := s) cpyEffect hf (fun _ _ => rfl) (fun _ _ _ => rfl)
  exact ⟨cmp rfl, cmp rfl, cmp rfl, cmp rfl, cmp rfl, cmp rfl, cmp rfl, cmp rfl, cpx rfl, cpx rfl, cpx rfl, cpy rfl,
    cpy rfl, cpy rfl⟩

end Sys2Proof.Machine
end

section
namespace Sys2Proof.Machine

/-! ## Increment and decrement -/

/-- A form of a mnemonic whose body reads, modifies and writes EA: the next state is that of its effect on the common part with
the stores of the write, and a fault is that of the read, or else that of the write (R115 f, R117). -/
theorem exec_rmwForm {m : Mnemonic} {f : Form} {s : State} (r : Byte → State → Byte) (post : Byte → State → State)
    (hf : f.lists m [.rmw] = true) (hbody : ∀ bad, bodyOf m .rmw bad = rmwBody bad r post)
    (hr : ∀ b l, r b ((s.pastOperand f.instr).withLog l) = r b s)
    (hcredit : ∀ b u n, (post b u).credit n = post b (u.credit n)) :
    f.instr.row.opcode = f.opcode ∧ ∃ ea crossed s1, Addresses f.instr s ea crossed s1 ∧
      (∀ b s2, memRead ea s1 = .ok (b, s2) →
        (writable s ea = true → ∃ t, memWrite ea (r b s) s2 = .ok ((), t) ∧
          exec f.instr s = .next (post b { s.after f 0 t.ppuLog with ram := t.ram, apu := t.apu })) ∧
        (∀ k, Fails (memWrite ea (r b s) s2) k → Stops (exec f.instr s) k)) ∧
      (∀ k, Fails (memRead ea s1) k → Stops (exec f.instr s) k) := by
  obtain ⟨-, hop, -, -, -, haccess⟩ := Form.lists_iff.mp hf
  have hrmw : f.instr.row.access = .rmw := List.mem_singleton.mp haccess
  have hexec : exec f.instr s = execRmw f.instr r post s := by
    rw [Form.lists_exec hf, hrmw, hbody]
    rfl
  obtain ⟨ea, crossed, s1, haddr, hread, hfault⟩ := execRmw_cases r post hrmw s
  rw [hexec]
  refine ⟨hop, ea, crossed, s1, haddr, fun b s2 hb => ?_, hfault⟩
  obtain ⟨hs2, hnext, hstop⟩ := hread b s2 hb
  have hrb : r b s2 = r b s := by rw [hs2, hr]
  rw [hrb] at hnext hstop
  refine ⟨fun hw => ?_, hstop⟩
  obtain ⟨t, hwrite, ht, hresult⟩ := hnext hw
  refine ⟨t, hwrite, ?_⟩
  rw [hresult, hcredit, Form.lists_after hf, ht]
  rfl

/-- Adding 255 is subtracting 1 modulo 256 (R173). -/
theorem sub_one_eq_add_0xFF (b : Byte) : b - 1 = b + 0xFF := BitVec.sub_eq_add_neg b 1

/-- A form whose body adds a byte to the one at EA and sets Z and N from the sum (R172, R173). -/
theorem exec_rmwAddForm {m : Mnemonic} {f : Form} {s : State} (d : Byte) (hf : f.lists m [.rmw] = true)
    (hbody : ∀ bad, bodyOf m .rmw bad = rmwBody bad (fun b _ => b + d) fun b u => u.setZN (b + d)) :
    f.instr.row.opcode = f.opcode ∧ ∃ ea crossed s1, Addresses f.instr s ea crossed s1 ∧
      (∀ b s2 r, memRead ea s1 = .ok (b, s2) → r = b + d →
        (writable s ea = true → ∃ t, memWrite ea r s2 = .ok ((), t) ∧
          exec f.instr s = .next { s.after f 0 t.ppuLog with
            ram := t.ram, apu := t.apu, flags := { s.flags with z := r == 0, n := r.msb } }) ∧
        (∀ k, Fails (memWrite ea r s2) k → Stops (exec f.instr s) k)) ∧
      (∀ k, Fails (memRead ea s1) k → Stops (exec f.instr s) k) := by
  obtain ⟨hop, ea, crossed, s1, haddr, hread, hfault⟩ :=
    exec_rmwForm (s := s) _ _ hf hbody (fun _ _ => rfl) fun _ _ _ => rfl
  refine ⟨hop, ea, crossed, s1, haddr, fun b s2 r hb hr => ?_, hfault⟩
  subst hr
  exact hread b s2 hb

/-- Settles O35: INC adds 1 and DEC adds 255. -/
theorem incDecUpdateMemory : Obligations.IncDecUpdateMemory := by
  intro nn a s
  rw [← List.forall_iff_forall_mem]
  have inc {f : Form} (hf : f.lists .INC [.rmw] = true) := exec_rmwAddForm (s := s) 1 hf fun _ => rfl
  have dec {f : Form} (hf : f.lists .DEC [.rmw] = true) := exec_rmwAddForm (s := s) 0xFF hf fun _ => by
    simp only [← sub_one_eq_add_0xFF]
    rfl
  exact ⟨inc rfl, inc rfl, inc rfl, inc rfl, dec rfl, dec rfl, dec rfl, dec rfl⟩

/-- Settles O36: each is class none, and its effect steps the register and sets Z and N. -/
theorem indexRegistersStep : Obligations.IndexRegistersStep := fun _ =>
  ⟨⟨rfl, rfl, rfl, rfl⟩,
    execImplied_eq (i := .inx) inxEffect rfl (by decide),
    execImplied_eq (i := .iny) inyEffect rfl (by decide),
    execImplied_eq (i := .dex) dexEffect rfl (by decide),
    execImplied_eq (i := .dey) deyEffect rfl (by decide)⟩

end Sys2Proof.Machine
end

section
namespace Sys2Proof

/-! ## Doubled and halved bytes -/

theorem shiftLeft_one_eq_ofNat (m : Byte) : m <<< 1 = BitVec.ofNat 8 (2 * m.toNat) := by
  apply BitVec.eq_of_toNat_eq
  rw [BitVec.toNat_shiftLeft, BitVec.toNat_ofNat, Nat.shiftLeft_eq, Nat.mul_comm]

theorem ushiftRight_one_eq_ofNat (m : Byte) : m >>> 1 = BitVec.ofNat 8 (m.toNat / 2) := by
  apply BitVec.eq_of_toNat_eq
  rw [BitVec.toNat_ushiftRight, BitVec.toNat_ofNat, Nat.shiftRight_eq_div_pow]
  omega

theorem getLsbD_zero_eq_mod (m : Byte) : m.getLsbD 0 = (m.toNat % 2 == 1) := by
  rw [BitVec.getLsbD, Nat.testBit_zero, beq_eq_decide]

theorem getLsbD_seven_eq_div (m : Byte) : m.getLsbD 7 = (m.toNat / 0x80 == 1) := by
  have hm : m.toNat < 0x100 := m.isLt
  rw [BitVec.getLsbD, Nat.testBit_eq_decide_div_mod_eq, beq_eq_decide, decide_eq_decide]
  omega

theorem ofNat_beq_zero (n : Nat) : (BitVec.ofNat 8 n == 0) = decide (n % 0x100 = 0) := by
  rw [beq_eq_decide, decide_eq_decide, ← BitVec.toNat_inj, BitVec.toNat_ofNat]
  rfl

theorem not_eq_decide_toNat_eq_zero (c : Bool) : (!c) = decide (c.toNat = 0) := by
  cases c <;> rfl

/-- A doubled byte with a carry is zero where its low seven bits and the carry are. -/
theorem ofNat_double_add_beq_zero (m : Byte) (c : Bool) :
    (BitVec.ofNat 8 (2 * m.toNat + c.toNat) == 0) = (m.toNat % 0x80 == 0 && !c) := by
  have hc : c.toNat ≤ 1 := Bool.toNat_le c
  rw [ofNat_beq_zero, not_eq_decide_toNat_eq_zero, beq_eq_decide, ← Bool.decide_and, decide_eq_decide]
  omega

/-- The sign of a doubled byte is bit 6 of the byte. -/
theorem msb_ofNat_double_add (m : Byte) (c : Bool) : (BitVec.ofNat 8 (2 * m.toNat + c.toNat)).msb = m.getLsbD 6 := by
  have hc : c.toNat ≤ 1 := Bool.toNat_le c
  rw [BitVec.msb_eq_decide, BitVec.toNat_ofNat, BitVec.getLsbD, Nat.testBit_eq_decide_div_mod_eq, decide_eq_decide]
  omega

/-- A halved byte with a carry at bit 7 is zero where its upper seven bits and the carry are. -/
theorem ofNat_half_add_beq_zero (m : Byte) (c : Bool) :
    (BitVec.ofNat 8 (m.toNat / 2 + 0x80 * c.toNat) == 0) = (decide (m.toNat < 2) && !c) := by
  have hm : m.toNat < 0x100 := m.isLt
  have hc : c.toNat ≤ 1 := Bool.toNat_le c
  rw [ofNat_beq_zero, not_eq_decide_toNat_eq_zero, ← Bool.decide_and, decide_eq_decide]
  omega

/-- The sign of a halved byte is the carry put at bit 7. -/
theorem msb_ofNat_half_add (m : Byte) (c : Bool) : (BitVec.ofNat 8 (m.toNat / 2 + 0x80 * c.toNat)).msb = c := by
  have hm : m.toNat < 0x100 := m.isLt
  have hc : c.toNat ≤ 1 := Bool.toNat_le c
  rw [BitVec.msb_eq_decide, BitVec.toNat_ofNat, Bool.eq_iff_iff, decide_eq_true_iff, ← Bool.toNat_eq_one]
  omega

end Sys2Proof

namespace Sys2Proof.Machine

/-! ## The shift core functions as arithmetic -/

theorem bit_eq_ofNat (c : Bool) : bit c = BitVec.ofNat 8 c.toNat := by
  cases c <;> rfl

theorem bit_shiftLeft_seven_eq_ofNat (c : Bool) : bit c <<< 7 = BitVec.ofNat 8 (0x80 * c.toNat) := by
  cases c <;> rfl

/-- ShiftASL doubles the byte (R190). -/
theorem shiftAsl_eq (m : Byte) (c : Bool) : shiftAsl m c = (BitVec.ofNat 8 (2 * m.toNat), m.getLsbD 7) := by
  rw [shiftAsl, shiftLeft_one_eq_ofNat]

/-- ShiftLSR halves the byte (R190). -/
theorem shiftLsr_eq (m : Byte) (c : Bool) : shiftLsr m c = (BitVec.ofNat 8 (m.toNat / 2), m.getLsbD 0) := by
  rw [shiftLsr, ushiftRight_one_eq_ofNat]

/-- ShiftROL doubles the byte and adds the old carry, for which bit 0 is free (R190). -/
theorem shiftRol_eq (m : Byte) (c : Bool) :
    shiftRol m c = (BitVec.ofNat 8 (2 * m.toNat + c.toNat), m.getLsbD 7) := by
  have hfree : m <<< 1 &&& bit c = 0 := by
    ext k hk
    rcases Nat.eq_zero_or_pos k with rfl | hpos
    · simp
    · simp [getElem_bit, hpos.ne']
  rw [shiftRol, ← BitVec.add_eq_or_of_and_eq_zero _ _ hfree, shiftLeft_one_eq_ofNat, bit_eq_ofNat, BitVec.ofNat_add]

/-- ShiftROR halves the byte and adds the old carry at bit 7, which is free (R190). -/
theorem shiftRor_eq (m : Byte) (c : Bool) :
    shiftRor m c = (BitVec.ofNat 8 (m.toNat / 2 + 0x80 * c.toNat), m.getLsbD 0) := by
  have hfree : m >>> 1 &&& bit c <<< 7 = 0 := by
    ext k hk
    rcases Nat.lt_or_ge k 7 with hlow | hhigh
    · simp [hlow]
    · obtain rfl : k = 7 := by omega
      simp
  rw [shiftRor, ← BitVec.add_eq_or_of_and_eq_zero _ _ hfree, ushiftRight_one_eq_ofNat, bit_shiftLeft_seven_eq_ofNat,
    BitVec.ofNat_add]

/-! ## Shifts of A -/

/-- A shift of A, with the result and the new carry given: A is the result, C the new carry, Z and N the result's (R191). -/
theorem execRegister_shiftA {i : Instr} {s : State} {shift : Byte → Bool → Byte × Bool} {r : Byte} {c z n : Bool}
    (ho : i.row.operand = .acc) (ha : i.row.access ≠ .read) (hshift : shift s.a s.flags.c = (r, c))
    (hz : (r == 0) = z) (hn : r.msb = n) :
    execRegister i (shiftA shift) s = .next ({ s.pastOperand i with
      a := r, flags := { s.flags with c := c, z := z, n := n } }.credit i.row.cycles) := by
  rw [execRegister_eq _ ho ha, shiftA, State.pastOperand_flags, hshift, ← hz, ← hn]
  rfl

/-- Settles O37: ASL and LSR shift in what ROL and ROR do with a clear carry. -/
theorem accumulatorShifts : Obligations.AccumulatorShifts := fun s =>
  ⟨⟨rfl, rfl, rfl, rfl⟩,
    execRegister_shiftA (i := .aslAcc) rfl (by decide) (shiftAsl_eq _ _)
      ((ofNat_double_add_beq_zero s.a false).trans (Bool.and_true _)) (msb_ofNat_double_add s.a false),
    execRegister_shiftA (i := .lsrAcc) rfl (by decide) (shiftLsr_eq _ _)
      ((ofNat_half_add_beq_zero s.a false).trans (Bool.and_true _)) (msb_ofNat_half_add s.a false),
    execRegister_shiftA (i := .rolAcc) rfl (by decide) (shiftRol_eq _ _)
      (ofNat_double_add_beq_zero s.a s.flags.c) (msb_ofNat_double_add s.a s.flags.c),
    execRegister_shiftA (i := .rorAcc) rfl (by decide) (shiftRor_eq _ _)
      (ofNat_half_add_beq_zero s.a s.flags.c) (msb_ofNat_half_add s.a s.flags.c)⟩

/-! ## Shifts of memory -/

/-- The shift computes the result and the bit shifted out by `arith`, from the byte and the old carry as numbers. -/
def ShiftsBy (shift : Byte → Bool → Byte × Bool) (arith : Nat → Nat → Nat × Nat) : Prop :=
  ∀ m c, shift m c = (BitVec.ofNat 8 (arith m.toNat c.toNat).1, (arith m.toNat c.toNat).2 == 1)

theorem shiftAsl_shiftsBy : ShiftsBy shiftAsl fun m _ => (2 * m, m / 0x80) := fun m c => by
  rw [shiftAsl_eq, getLsbD_seven_eq_div]

theorem shiftLsr_shiftsBy : ShiftsBy shiftLsr fun m _ => (m / 2, m % 2) := fun m c => by
  rw [shiftLsr_eq, getLsbD_zero_eq_mod]

theorem shiftRol_shiftsBy : ShiftsBy shiftRol fun m c => (2 * m + c, m / 0x80) := fun m c => by
  rw [shiftRol_eq, getLsbD_seven_eq_div]

theorem shiftRor_shiftsBy : ShiftsBy shiftRor fun m c => (m / 2 + 0x80 * c, m % 2) := fun m c => by
  rw [shiftRor_eq, getLsbD_zero_eq_mod]

/-- A form whose body shifts the byte at EA by known arithmetic (R191). -/
theorem exec_shiftForm {m : Mnemonic} {f : Form} {s : State} {shift : Byte → Bool → Byte × Bool}
    {arith : Nat → Nat → Nat × Nat} (harith : ShiftsBy shift arith) (hf : f.lists m [.rmw] = true)
    (hbody : ∀ bad, bodyOf m .rmw bad = rmwBody bad (shiftResult shift) (shiftFlags shift)) :
    f.instr.row.opcode = f.opcode ∧ ∃ ea crossed s1, Addresses f.instr s ea crossed s1 ∧
      (∀ b s2 r, memRead ea s1 = .ok (b, s2) → r = BitVec.ofNat 8 (arith b.toNat s.flags.c.toNat).1 →
        (writable s ea = true → ∃ t, memWrite ea r s2 = .ok ((), t) ∧
          exec f.instr s = .next { s.after f 0 t.ppuLog with
            ram := t.ram, apu := t.apu
            flags := { s.flags with c := (arith b.toNat s.flags.c.toNat).2 == 1, z := r == 0, n := r.msb } }) ∧
        (∀ k, Fails (memWrite ea r s2) k → Stops (exec f.instr s) k)) ∧
      (∀ k, Fails (memRead ea s1) k → Stops (exec f.instr s) k) := by
  obtain ⟨hop, ea, crossed, s1, haddr, hread, hfault⟩ :=
    exec_rmwForm (s := s) _ _ hf hbody (fun _ _ => rfl) fun _ _ _ => rfl
  refine ⟨hop, ea, crossed, s1, haddr, fun b s2 r hb hr => ?_, hfault⟩
  obtain ⟨hresult, hcarry⟩ := Prod.mk.inj (harith b s.flags.c)
  obtain rfl : r = shiftResult shift b s := hr.trans hresult.symm
  rw [← hcarry]
  exact hread b s2 hb

/-- Settles O38: each row is a form of ASL, LSR, ROL or ROR, whose shifts compute by the arithmetic listed with it. -/
theorem memoryShifts : Obligations.MemoryShifts := by
  intro nn a s
  rw [← List.forall_iff_forall_mem]
  have asl {f : Form} (hf : f.lists .ASL [.rmw] = true) :=
    exec_shiftForm (s := s) shiftAsl_shiftsBy hf fun _ => rfl
  have lsr {f : Form} (hf : f.lists .LSR [.rmw] = true) :=
    exec_shiftForm (s := s) shiftLsr_shiftsBy hf fun _ => rfl
  have rol {f : Form} (hf : f.lists .ROL [.rmw] = true) :=
    exec_shiftForm (s := s) shiftRol_shiftsBy hf fun _ => rfl
  have ror {f : Form} (hf : f.lists .ROR [.rmw] = true) :=
    exec_shiftForm (s := s) shiftRor_shiftsBy hf fun _ => rfl
  exact ⟨asl rfl, asl rfl, asl rfl, asl rfl, lsr rfl, lsr rfl, lsr rfl, lsr rfl, rol rfl, rol rfl, rol rfl, rol rfl,
    ror rfl, ror rfl, ror rfl, ror rfl⟩

end Sys2Proof.Machine
end

section
namespace Sys2Proof.Machine

/-! ## Branches -/

/-- A form of a branch with its condition: not taken, the next state is the common part; taken, PC is the signed sum, at one
extra cycle in the page of the next instruction and two in another (R200). -/
theorem exec_branchForm {m : Mnemonic} {f : Form} {s : State} {nn : Byte} {target : Word} {cond : State → Bool}
    (hf : f.lists m [.none] = true) (ho : f.instr.row.operand = .rel nn)
    (hbody : ∀ access bad, bodyOf m access bad = branchBody bad cond) (hcond : cond (s.pastOperand f.instr) = cond s)
    (ht : target = BitVec.ofInt 16 ((s.pc + 2).toNat + nn.toInt)) :
    f.instr.row.opcode = f.opcode ∧
    (cond s = false → exec f.instr s = .next (s.after f 0 s.ppuLog)) ∧
    (cond s = true → exec f.instr s = .next { s.after f
      (if (s.pc + 2).toNat / 0x100 = target.toNat / 0x100 then 1 else 2) s.ppuLog with pc := target }) := by
  obtain ⟨-, hop, -, -, -, haccess⟩ := Form.lists_iff.mp hf
  have hclass : f.instr.row.access ≠ .read := by rw [List.mem_singleton.mp haccess]; decide
  have hexec : exec f.instr s = execBranch f.instr cond s := by
    rw [Form.lists_exec hf, hbody]
    rfl
  have hlen : BitVec.ofNat 16 f.instr.length = 2 := by rw [length_eq_bytes, ho]; rfl
  rw [hexec]
  refine ⟨hop, fun hc => ?_, fun hc => ?_⟩
  · rw [execBranch_notTaken ho hclass (hcond.trans hc), Form.lists_after hf]
    rfl
  · have htarget : target = s.pc + BitVec.ofNat 16 f.instr.length + sext16 nn := by rw [ht, hlen, add_sext16]
    rw [execBranch_taken ho hclass (hcond.trans hc) htarget, Form.lists_after hf, hlen, hiByte_bne]
    simp only [decide_eq_true_eq, ne_eq, ite_not, add_ite, Nat.add_zero, Nat.reduceAdd]
    rfl

/-- Settles O39: each branch has a rel operand, and its condition reads the flag listed with it. -/
theorem branchesFollowFlags : Obligations.BranchesFollowFlags := by
  intro nn s target ht
  rw [← List.forall_iff_forall_mem]
  have branch (m : Mnemonic) (cond : State → Bool) {f : Form} (hf : f.lists m [.none] = true)
      (ho : f.instr.row.operand = .rel nn) (hbody : ∀ access bad, bodyOf m access bad = branchBody bad cond)
      (hcond : cond (s.pastOperand f.instr) = cond s) := exec_branchForm hf ho hbody hcond ht
  exact ⟨branch .BCC bccTaken rfl rfl (fun _ _ => rfl) rfl, branch .BCS bcsTaken rfl rfl (fun _ _ => rfl) rfl,
    branch .BEQ beqTaken rfl rfl (fun _ _ => rfl) rfl, branch .BNE bneTaken rfl rfl (fun _ _ => rfl) rfl,
    branch .BMI bmiTaken rfl rfl (fun _ _ => rfl) rfl, branch .BPL bplTaken rfl rfl (fun _ _ => rfl) rfl,
    branch .BVC bvcTaken rfl rfl (fun _ _ => rfl) rfl, branch .BVS bvsTaken rfl rfl (fun _ _ => rfl) rfl⟩

/-! ## Jumps -/

/-- The pointer of an indirect jump is read as from the state before the operand fetch, which has moved PC alone (R101). -/
theorem addresses_jmpInd {a target : Word} {s s1 : State} (h : read16Bug a s = .ok (target, s1)) :
    Addresses (.jmpInd a) s target false (s1.setPC (s.pastOperand (.jmpInd a)).pc) :=
  andThen_eq_ok.mpr ⟨target, _, readPair_setPC _ h, rfl⟩

/-- An indirect jump faults where its pointer read does (R105). -/
theorem exec_jmpInd_stops {a : Word} {s : State} {k : FaultKind} (h : Fails (read16Bug a s) k) :
    Stops (exec (.jmpInd a) s) k :=
  execute_stops.mpr (.inl (resolve_ind_fails.mpr (readPair_setPC_fails h)))

/-- A read has two ways to fail: no store behind the address, or no byte behind a PRG offset (R48, R49). -/
theorem memRead_fails_kind {a : Word} {s : State} {k : FaultKind} (h : Fails (memRead a s) k) :
    (∃ p, k = .unmappedAddress p .read) ∨ ∃ off, k = .configError off := by
  rcases memRead_fails.mp h with ⟨-, rfl⟩ | ⟨off, -, -, rfl⟩
  · exact .inl ⟨a, rfl⟩
  · exact .inr ⟨off, rfl⟩

/-- Settles O40: a jump moves PC to its address, which the indirect form reads through its pointer. -/
theorem jmpSetsPc : Obligations.JmpSetsPc := by
  refine fun a s => ⟨⟨rfl, rfl⟩, ?_, fun target s1 h => ?_, fun k h => ⟨exec_jmpInd_stops h, ?_⟩⟩
  · exact execJump_next (i := .jmpAbs a) (f := jmpEffect) (by simp [Instr.row]) rfl rfl
  · refine (execJump_next (i := .jmpInd a) (f := jmpEffect) (by simp [Instr.row]) (addresses_jmpInd h) rfl).trans ?_
    rw [readPair_state h]
    rfl
  · rcases readPair_fails.mp h with h | ⟨_, _, -, h⟩ <;> exact memRead_fails_kind h

/-! ## Calls and returns -/

/-- What is peeked in a stack slot is the byte of its RAM cell (R57). -/
theorem peek_slot {s : State} {p v : Byte} :
    s.peek (BitVec.ofNat 16 (0x100 + p.toNat)) = some v ↔ s.ram.get (0x100 + p.toNat) = v := by
  rw [ofNat_stackAddr, peek_stackAddr, Option.some_inj]

/-- JSR pushes the address of its last byte (R210). -/
theorem exec_jsr (a : Word) (s : State) : exec (.jsr a) s = .next ({ s.pastOperand (.jsr a) with
    pc := a, sp := s.sp - 2
    ram := (s.ram.set (0x100 + s.sp.toNat) (hiByte (s.pc + 2))).set (0x100 + (s.sp - 1).toNat)
      (loByte (s.pc + 2)) }.credit 6) := by
  have hret : s.pc + 2 = (s.pastOperand (.jsr a)).pc - 1 := (add_sub_assoc s.pc 3 1).symm
  have hsp : s.sp - 2 = s.sp - 1 - 1 := (BitVec.sub_sub s.sp 1 1).symm
  rw [hret, hsp]
  exact execJump_next (i := .jsr a) (by simp [Instr.row]) rfl (jsrEffect_eq a _)

/-- RTS adds 1 to the pulled address (R211). -/
theorem exec_rts (s : State) : exec .rts s = .next ({ s.pastOperand .rts with
    pc := cat (s.ram.get (0x100 + (s.sp + 2).toNat)) (s.ram.get (0x100 + (s.sp + 1).toNat)) + 1
    sp := s.sp + 2 }.credit 6) := by
  have hsp : s.sp + 2 = s.sp + 1 + 1 := (BitVec.add_assoc s.sp 1 1).symm
  rw [hsp]
  exact execAccess_next (i := .rts) rfl (by decide) (rtsEffect_eq _)

/-- RTI pulls the status byte and then PC (R212, R265). -/
theorem exec_rti (s : State) : exec .rti s = .next ({ s.pastOperand .rti with
    pc := cat (s.ram.get (0x100 + (s.sp + 3).toNat)) (s.ram.get (0x100 + (s.sp + 2).toNat))
    sp := s.sp + 3, flags := Flags.unpack (s.ram.get (0x100 + (s.sp + 1).toNat)) }.credit 6) := by
  have hsp2 : s.sp + 2 = s.sp + 1 + 1 := (BitVec.add_assoc s.sp 1 1).symm
  have hsp3 : s.sp + 3 = s.sp + 1 + 1 + 1 := by rw [← hsp2]; exact (BitVec.add_assoc s.sp 2 1).symm
  rw [hsp3, hsp2]
  exact execAccess_next (i := .rti) rfl (by decide) (leaveBreak_eq _)

/-- Settles O41: the two slots of the pushed address, and the two RTS pulls. -/
theorem jsrCallsRtsReturns : Obligations.JsrCallsRtsReturns := by
  refine ⟨fun a s => ⟨⟨rfl, rfl⟩, exec_jsr a s⟩, fun s l h hl hh => ?_⟩
  rw [← peek_slot.mp hl, ← peek_slot.mp hh]
  exact exec_rts s

/-- Settles O42: the three slots RTI pulls, the first of which holds the status byte. -/
theorem rtiRestoresStatusAndPc : Obligations.RtiRestoresStatusAndPc := by
  refine ⟨rfl, fun s p l h hp hl hh => ?_⟩
  rw [← peek_slot.mp hp, ← peek_slot.mp hl, ← peek_slot.mp hh]
  exact exec_rti s

/-! ## The software break -/

/-- The state in which BRK reads its vector: the return address and the status are pushed, and I is set (R213). -/
def State.atBreakVector (s : State) (ret : Word) : State :=
  { s with
      sp := s.sp - 3, flags := { s.flags with i := true }
      ram := ((s.ram.set (0x100 + s.sp.toNat) (hiByte ret)).set (0x100 + (s.sp - 1).toNat) (loByte ret)).set
        (0x100 + (s.sp - 2).toNat) (s.flags.pack true) }

/-- The third slot down from SP is neither of the two above it, at the wrap of SP too. -/
theorem slot_sub_two_ne (p : Byte) :
    0x100 + (p - 1).toNat ≠ 0x100 + (p - 2).toNat ∧ 0x100 + p.toNat ≠ 0x100 + (p - 2).toNat := by
  constructor <;> bv_omega

/-- The three bytes BRK pushes stand in three different slots (R213). -/
theorem State.atBreakVector_slots (s : State) (ret : Word) :
    (s.atBreakVector ret).ram.get (0x100 + (s.sp - 2).toNat) = s.flags.pack true ∧
    (s.atBreakVector ret).ram.get (0x100 + (s.sp - 1).toNat) = loByte ret ∧
    (s.atBreakVector ret).ram.get (0x100 + s.sp.toNat) = hiByte ret := by
  obtain ⟨hlo, hhi⟩ := slot_sub_two_ne s.sp
  simp only [State.atBreakVector, Memory.get_set_same, Memory.get_set_other _ _ _ _ hlo, Memory.get_set_other _ _ _ _ hhi,
    Memory.get_set_other _ _ _ _ (slot_pred_ne s.sp).symm, and_self]

/-- Entering the handler completes or faults with the read of the vector alone (R60, R213). -/
theorem enterBreak_eq (ret : Word) (s : State) :
    enterBreak ret s = andThen (read16 breakVector (s.atBreakVector ret)) fun target t => .ok ((), t.setPC target) := by
  have hsp2 : s.sp - 2 = s.sp - 1 - 1 := (BitVec.sub_sub s.sp 1 1).symm
  have hsp3 : s.sp - 3 = s.sp - 1 - 1 - 1 := by rw [← hsp2]; exact (BitVec.sub_sub s.sp 2 1).symm
  rw [enterBreak, push16_eq, andThen_ok, push_eq, andThen_ok, State.atBreakVector, hsp3, hsp2]
  simp only [State.setFlags, State.setSP, State.setRam]

/-- BRK's return address is pc0 + 2: the byte after the opcode is skipped (R213). -/
theorem brkEffect_pastOperand (s : State) :
    brkEffect (s.pastOperand .brk) = enterBreak (s.pc + 2) (s.pastOperand .brk) := by
  rw [show s.pc + 2 = (s.pastOperand .brk).pc + 1 from (BitVec.add_assoc s.pc 1 1).symm]
  rfl

/-- The vector's bytes are PRG bytes of the upper bank (R47, R57). -/
theorem target_breakVector (s : State) : s.target breakVector = .prg (0x3FFE + s.params.prgUpperBase) := by
  simp [State.target, busDecode_eq, breakVector]

theorem target_breakVector_succ (s : State) : s.target (breakVector + 1) = .prg (0x3FFF + s.params.prgUpperBase) := by
  simp [State.target, busDecode_eq, breakVector]

/-- An implied instruction with accesses of its own completes exactly where they do (R115). -/
theorem execAccess_eq_next {i : Instr} {f : State → Bus Unit} {s t : State} (ho : i.row.operand = .imp)
    (ha : i.row.access ≠ .read) :
    execAccess i f s = .next t ↔ ∃ u, f (s.pastOperand i) = .ok ((), u) ∧ t = u.credit i.row.cycles := by
  constructor
  · intro h
    obtain ⟨r, s1, n, u, hres, hbody, rfl⟩ := execute_eq_next.mp h
    rw [ho] at hres
    cases hres
    obtain ⟨rfl, hu⟩ := accessBody_ok hbody
    exact ⟨u, hu, by rw [cost_of_class_other ha, Nat.add_zero]⟩
  · rintro ⟨u, hu, rfl⟩
    exact execAccess_next ho ha hu

/-- BRK faults where the read of its vector does (R213, R264). -/
theorem exec_brk_stops {s : State} {k : FaultKind}
    (h : Fails (read16 breakVector ((s.pastOperand .brk).atBreakVector (s.pc + 2))) k) : Stops (exec .brk s) k := by
  refine execAccess_fault (i := .brk) (f := brkEffect) rfl ?_
  rw [brkEffect_pastOperand, enterBreak_eq]
  exact andThen_fails.mpr (.inl h)

/-- BRK completes exactly where the read of its vector does, and PC is the word read (R213, R264). -/
theorem exec_brk_eq_next {s t : State} : exec .brk s = .next t ↔
    ∃ w, read16 breakVector ((s.pastOperand .brk).atBreakVector (s.pc + 2)) =
      .ok (w, (s.pastOperand .brk).atBreakVector (s.pc + 2)) ∧
      t = (((s.pastOperand .brk).atBreakVector (s.pc + 2)).setPC w).credit 7 := by
  have hexec : exec .brk s = .next t ↔ ∃ u, brkEffect (s.pastOperand .brk) = .ok ((), u) ∧ t = u.credit 7 :=
    execAccess_eq_next (i := .brk) rfl (by decide)
  rw [hexec, brkEffect_pastOperand, enterBreak_eq]
  constructor
  · rintro ⟨v, hbreak, rfl⟩
    obtain ⟨w, u, hread, hu⟩ := andThen_eq_ok.mp hbreak
    obtain rfl := readPair_prg (target_breakVector _) (target_breakVector_succ _) hread
    cases hu
    exact ⟨w, hread, rfl⟩
  · rintro ⟨w, hread, rfl⟩
    exact ⟨_, andThen_eq_ok.mpr ⟨w, _, hread, rfl⟩, rfl⟩

/-- Settles O43: the pushes complete in every state, so the two vector bytes decide. -/
theorem brkEntersHandler : Obligations.BrkEntersHandler := by
  refine fun s => ⟨rfl, fun l h hl hh => ?_, fun hl => ?_, fun l hl hh => ?_⟩
  · exact exec_brk_eq_next.mpr ⟨_, read16_prg (target_breakVector _) (target_breakVector_succ _) hl hh, rfl⟩
  · exact exec_brk_stops ⟨_, read16_prg_lo_none (target_breakVector _) hl⟩
  · exact exec_brk_stops ⟨_, read16_prg_hi_none (target_breakVector _) (target_breakVector_succ _) hl hh⟩

/-! ## Returns undo calls -/

/-- RTS above a pushed address pulls that address, and SP is what it was before the push (R211). -/
theorem exec_rts_above {t : State} {p l h : Byte} (hsp : t.sp = p - 2)
    (hl : t.ram.get (0x100 + (p - 1).toNat) = l) (hh : t.ram.get (0x100 + p.toNat) = h) :
    ∃ u, exec .rts t = .next u ∧ u.pc = cat h l + 1 ∧ u.sp = p ∧ u.flags = t.flags := by
  have hlo : t.sp + 1 = p - 1 := by rw [hsp]; bv_omega
  have hhi : t.sp + 2 = p := by rw [hsp, BitVec.sub_add_cancel]
  refine ⟨_, exec_rts t, ?_, hhi, rfl⟩
  rw [← hl, ← hh, ← hlo, ← hhi]
  rfl

/-- RTI above a pushed address and status pulls both, and SP is what it was before the pushes (R212). -/
theorem exec_rti_above {t : State} {p b l h : Byte} (hsp : t.sp = p - 3)
    (hb : t.ram.get (0x100 + (p - 2).toNat) = b) (hl : t.ram.get (0x100 + (p - 1).toNat) = l)
    (hh : t.ram.get (0x100 + p.toNat) = h) :
    ∃ u, exec .rti t = .next u ∧ u.pc = cat h l ∧ u.sp = p ∧ u.flags = Flags.unpack b := by
  have hstatus : t.sp + 1 = p - 2 := by rw [hsp]; bv_omega
  have hlo : t.sp + 2 = p - 1 := by rw [hsp]; bv_omega
  have hhi : t.sp + 3 = p := by rw [hsp, BitVec.sub_add_cancel]
  refine ⟨_, exec_rti t, ?_, hhi, ?_⟩
  · rw [← hl, ← hh, ← hlo, ← hhi]
    rfl
  · rw [← hb, ← hstatus]
    rfl

/-- JSR in every state: the two slots it fills hold the address of its last byte (R210). -/
theorem exec_jsr_slots (a : Word) (s : State) : ∃ t, exec (.jsr a) s = .next t ∧ t.pc = a ∧ t.sp = s.sp - 2 ∧
    t.flags = s.flags ∧ t.ram.get (0x100 + (s.sp - 1).toNat) = loByte (s.pc + 2) ∧
    t.ram.get (0x100 + s.sp.toNat) = hiByte (s.pc + 2) :=
  ⟨_, exec_jsr a s, rfl, rfl, rfl, Memory.get_set_same _ _ _,
    (Memory.get_set_other _ _ _ _ (slot_pred_ne s.sp).symm).trans (Memory.get_set_same _ _ _)⟩

/-- RTS resumes after the JSR (R210, R211). -/
theorem rts_undoes_jsr (a : Word) (s : State) : ∃ t u, exec (.jsr a) s = .next t ∧ exec .rts t = .next u ∧ t.pc = a ∧
    u.pc = s.pc + 3 ∧ u.sp = s.sp ∧ u.flags = s.flags := by
  obtain ⟨t, ht, htpc, htsp, htflags, hlo, hhi⟩ := exec_jsr_slots a s
  obtain ⟨u, hu, hpc, hsp, hflags⟩ := exec_rts_above htsp hlo hhi
  have hret : u.pc = s.pc + 2 + 1 := by rw [hpc, cat_hiByte_loByte]
  exact ⟨t, u, ht, hu, htpc, hret.trans (BitVec.add_assoc s.pc 2 1), hsp, hflags.trans htflags⟩

/-- RTI resumes at pc0 + 2 with the flags as they were before BRK set I (R212, R213, R265). -/
theorem rti_undoes_brk {s t : State} (h : exec .brk s = .next t) : t.flags.i = true ∧
    ∃ u, exec .rti t = .next u ∧ u.pc = s.pc + 2 ∧ u.sp = s.sp ∧ u.flags = s.flags := by
  obtain ⟨w, -, rfl⟩ := exec_brk_eq_next.mp h
  obtain ⟨hstatus, hlo, hhi⟩ := (s.pastOperand .brk).atBreakVector_slots (s.pc + 2)
  obtain ⟨u, hu, hpc, hsp, hflags⟩ := exec_rti_above
    (t := (((s.pastOperand .brk).atBreakVector (s.pc + 2)).setPC w).credit 7) rfl hstatus hlo hhi
  exact ⟨rfl, u, hu, hpc.trans (cat_hiByte_loByte _), hsp, hflags.trans (Flags.unpack_pack _ _)⟩

/-- Settles O60: the return pulls the bytes the call pushed. -/
theorem returnsUndoCalls : Obligations.ReturnsUndoCalls :=
  ⟨fun s a => rts_undoes_jsr a s, fun _ _ => rti_undoes_brk⟩

end Sys2Proof.Machine
end

section
namespace Sys2Proof.Machine

/-! ## Flag instructions and implied NOPs -/

/-- Settles O44: each is class none, and its effect writes the flag it is named for. -/
theorem flagInstructionsWriteOneFlag : Obligations.FlagInstructionsWriteOneFlag := fun _ =>
  ⟨⟨rfl, rfl, rfl, rfl, rfl, rfl, rfl⟩,
    execImplied_eq (i := .clc) clcEffect rfl (by decide),
    execImplied_eq (i := .sec) secEffect rfl (by decide),
    execImplied_eq (i := .cli) cliEffect rfl (by decide),
    execImplied_eq (i := .sei) seiEffect rfl (by decide),
    execImplied_eq (i := .cld) cldEffect rfl (by decide),
    execImplied_eq (i := .sed) sedEffect rfl (by decide),
    execImplied_eq (i := .clv) clvEffect rfl (by decide)⟩

/-- A form of a NOP without an operand byte: the next state is the common part alone (R227, R231). -/
theorem exec_nopForm {f : Form} {s : State} (hf : f.lists .NOP [.none] = true) (ho : f.instr.row.operand = .imp) :
    f.instr.row.opcode = f.opcode ∧ exec f.instr s = .next (s.after f 0 s.ppuLog) := by
  obtain ⟨-, hop, -, -, -, haccess⟩ := Form.lists_iff.mp hf
  have hnone : f.instr.row.access = .none := List.mem_singleton.mp haccess
  have hexec : exec f.instr s = execImplied f.instr nopEffect s := by
    rw [Form.lists_exec hf, hnone]
    rfl
  refine ⟨hop, ?_⟩
  rw [hexec, execImplied_eq nopEffect ho (by rw [hnone]; decide), Form.lists_after hf]
  rfl

/-- Settles O45: each row is a form of NOP with the implied mode. -/
theorem impliedNopsOnlyAdvance : Obligations.ImpliedNopsOnlyAdvance := by
  intro s
  rw [← List.forall_iff_forall_mem]
  exact ⟨exec_nopForm rfl rfl, exec_nopForm rfl rfl, exec_nopForm rfl rfl, exec_nopForm rfl rfl, exec_nopForm rfl rfl,
    exec_nopForm rfl rfl, exec_nopForm rfl rfl⟩

end Sys2Proof.Machine
end

section
namespace Sys2Proof.Machine

/-! ## Unimplemented bytes -/

/-- The bytes of R242, in its order. -/
def unimplementedBytes : List Byte :=
  [0x02, 0x12, 0x22, 0x32, 0x42, 0x52, 0x62, 0x72, 0x92, 0xB2, 0xD2, 0xF2,
    0x0B, 0x2B, 0x4B, 0x6B, 0x8B, 0x93, 0x9F, 0x9B, 0x9C, 0x9E, 0xAB, 0xBB, 0xCB]

theorem implemented_eq (i : Instr) : i.row.implemented = !unimplementedBytes.contains i.row.opcode := by
  cases i <;> rfl

theorem implemented_eq_false_iff (i : Instr) : i.row.implemented = false ↔ i.row.opcode ∈ unimplementedBytes := by
  rw [implemented_eq, Bool.not_eq_false', List.contains_iff_mem]

/-- An unimplemented byte has no operand bytes (R118, R242). -/
theorem encode_of_unimplemented {i : Instr} (hi : i.row.implemented = false) : encode i = [i.row.opcode] := by
  have hrow : (i.row.implemented || i.row.operand.bytes.isEmpty) = true := by
    cases i <;> rfl
  rw [hi, Bool.false_or, List.isEmpty_iff] at hrow
  rw [encode, hrow]

/-- Every opcode followed by enough zero bytes decodes, and the decoder leaves the bytes past the instruction (R70 to R73). -/
theorem decode_zeros (op : Byte) :
    ∃ i, decode [op, 0, 0] = .ok (i, ([0, 0] : List Byte).drop (i.length - 1)) ∧ i.row.opcode = op := by
  obtain ⟨operand, rest, i, hy, hzeros⟩ :
      ∃ operand rest i, (lookup op).Yields operand i ∧ ([0, 0] : List Byte) = operand ++ rest := by
    cases lookup op with
    | op0 i => exact ⟨[], [0, 0], i, .op0 i, rfl⟩
    | op1 f => exact ⟨[0], [0], f 0, .op1 f 0, rfl⟩
    | op2 f => exact ⟨[0, 0], [], f 0, .op2 f 0, rfl⟩
  obtain ⟨hop, hbytes⟩ := List.cons.inj (lookup_encodesAt op operand i hy)
  refine ⟨i, decode_cons_eq_ok.mpr ⟨operand, hy, ?_⟩, hop⟩
  rw [length_eq_bytes, hbytes, Nat.add_sub_cancel, hzeros, List.drop_left]

/-- An unmarked step that reads an unimplemented byte at PC stops there, in the state the read leaves (R111, R118). -/
theorem step_unimplemented {s t : State} {i : Instr} (hi : i.row.implemented = false) (hs : s.faultMark = none)
    (hread : memRead s.pc s = .ok (i.row.opcode, t)) :
    step s = .fault { kind := .unknownOpcode s.pc i.row.opcode, left := t } := by
  have hdecode : decode ([i.row.opcode] ++ []) = .ok (i, []) := encode_of_unimplemented hi ▸ decodeOfEncode i []
  have hfetch : fetch s = .ok (i, t) := fetch_of_bytes hdecode ⟨t, hread, rfl⟩
  have hpc : t.pc = s.pc := by
    rw [memRead_state hread]
    rfl
  rw [step_of_fetch hs hfetch, exec_unimplemented i t hi, hpc]

/-- Settles O4: a row is unimplemented exactly where its opcode is a byte of R242. -/
theorem unimplementedBytesFault : Obligations.UnimplementedBytesFault := by
  refine ⟨fun op => ?_, fun s i hmem => ?_, fun s t i => step_unimplemented⟩
  · obtain ⟨i, hdecode, rfl⟩ := decode_zeros op
    exact ⟨i, hdecode, rfl, implemented_eq_false_iff i⟩
  · have hi : (!i.row.implemented) = true :=
      (List.all_eq_true (p := fun i : Instr => !i.row.implemented)).mp rfl i hmem
    rw [Bool.not_eq_true'] at hi
    exact ⟨hi, exec_unimplemented i s hi⟩

/-! ## Unofficial instructions that read their operand -/

theorem Form.lists_of_mem {m : Mnemonic} {classes : List AccessClass} {forms : List Form} {f : Form}
    (hforms : forms.all (Form.lists m classes) = true) (hf : f ∈ forms) : f.lists m classes = true :=
  List.all_eq_true.mp hforms f hf

/-- Settles O46: outside class none the body of NOP is a read, whose effect discards the byte. -/
theorem operandNopsOnlyRead : Obligations.OperandNopsOnlyRead := by
  intro nn a s f hmem
  have hf : f.lists .NOP [.read, .immediate] = true := Form.lists_of_mem rfl hmem
  obtain ⟨-, hop, -, -, -, haccess⟩ := Form.lists_iff.mp hf
  have hclass : f.instr.row.access = .read ∨ f.instr.row.access = .immediate := by simpa using haccess
  have hexec : exec f.instr s = execRead f.instr nopOperandEffect s := by
    rw [Form.lists_exec hf]
    rcases hclass with h | h <;> rw [h] <;> rfl
  refine ⟨hop, fun m crossed s1 h => ?_, fun k h => ?_⟩
  · rw [hexec, execRead_eq nopOperandEffect hclass h, Form.lists_after hf]
    rfl
  · rw [hexec]
    exact execRead_of_faults nopOperandEffect h

/-- Settles O47: as for LDA, with the effect `laxEffect`. -/
theorem laxLoadsAAndX : Obligations.LaxLoadsAAndX := fun _ _ s =>
  exec_readForms (m := .LAX) laxEffect rfl (fun _ _ => rfl) (fun _ _ _ => rfl) s

/-! ## Unofficial instructions that step the byte at EA -/

/-- Settles O48: DCP's body writes the decremented byte, and its effect is Compare on A with that byte. -/
theorem dcpDecrementsAndCompares : Obligations.DcpDecrementsAndCompares := by
  intro nn a s f hmem
  obtain ⟨hop, ea, crossed, s1, haddr, hread, hfault⟩ := exec_rmwForm (m := .DCP) (s := s) decResult dcpEffect
    (Form.lists_of_mem rfl hmem) (fun _ => rfl) (fun _ _ => rfl) fun _ _ _ => rfl
  refine ⟨hop, ea, crossed, s1, haddr, fun m s2 r hm hr => ?_, hfault⟩
  subst hr
  exact hread m s2 hm

/-- Settles O49: ISB's body writes the incremented byte, and its effect is SubCore on A with that byte. -/
theorem isbIncrementsAndSubtracts : Obligations.IsbIncrementsAndSubtracts := by
  intro nn a s f hmem
  obtain ⟨hop, ea, crossed, s1, haddr, hread, hfault⟩ := exec_rmwForm (m := .ISB) (s := s) incResult isbEffect
    (Form.lists_of_mem rfl hmem) (fun _ => rfl) (fun _ _ => rfl) fun _ _ _ => rfl
  refine ⟨hop, ea, crossed, s1, haddr, fun m s2 r d w hm hr hd hw => ?_, hfault⟩
  subst hr hd
  obtain rfl : w = (subCore s.a (m + 1) s.flags).1 := hw
  rw [← subCore_v_eq_msb]
  exact hread m s2 hm

/-! ## Shift combinations -/

/-- The shift that SLO, RLA and SRE begin with (R238 to R240). -/
def combinationShift : Mnemonic → Byte → Bool → Byte × Bool
  | .SLO => shiftAsl
  | .RLA => shiftRol
  | _ => shiftLsr

/-- The operation by which SLO, RLA and SRE combine A with the shifted byte (R238 to R240). -/
def combinationOp : Mnemonic → Byte → Byte → Byte
  | .SLO => fun u v => u ||| v
  | .RLA => fun u v => u &&& v
  | _ => fun u v => u ^^^ v

/-- The body of a shift combination: the shift of the byte at EA, then the operation on A. -/
theorem bodyOf_combination {m : Mnemonic} (hm : m = .SLO ∨ m = .RLA ∨ m = .SRE) (bad : FaultKind) :
    bodyOf m .rmw bad = rmwBody bad (shiftResult (combinationShift m)) (shiftThen (combinationShift m) fun b u =>
      (u.setA (combinationOp m u.a b)).setZN (combinationOp m u.a b)) := by
  rcases hm with rfl | rfl | rfl <;> rfl

/-- Settles O50: each row is a form of the mnemonic listed with it, whose shift and operation are those of the clause for it. -/
theorem shiftCombinationsUpdateA : Obligations.ShiftCombinationsUpdateA := by
  rintro nn a s ⟨f, mn⟩ hmem
  have hrow : (f.lists mn [.rmw] && [.SLO, .RLA, .SRE].contains mn) = true :=
    (List.all_eq_true (p := fun q : Form × Mnemonic => q.1.lists q.2 [.rmw] && [.SLO, .RLA, .SRE].contains q.2)).mp
      rfl (f, mn) hmem
  simp only [Bool.and_eq_true, List.contains_iff_mem, List.mem_cons, List.not_mem_nil, or_false] at hrow
  obtain ⟨hf, hmn⟩ := hrow
  obtain ⟨hop, ea, crossed, s1, haddr, hread, hfault⟩ :=
    exec_rmwForm (s := s) _ _ hf (bodyOf_combination hmn) (fun _ _ => rfl) fun _ _ _ => rfl
  refine ⟨hop, ea, crossed, s1, haddr, fun m s2 r w c hm hslo hrla hsre => ?_, hfault⟩
  have hresult : r = (combinationShift mn m s.flags.c).1 ∧ c = (combinationShift mn m s.flags.c).2 ∧
      w = combinationOp mn s.a r := by
    rcases hmn with rfl | rfl | rfl
    · rw [show combinationShift .SLO = shiftAsl from rfl, shiftAsl_eq]
      exact hslo rfl
    · rw [show combinationShift .RLA = shiftRol from rfl, shiftRol_eq]
      exact hrla rfl
    · rw [show combinationShift .SRE = shiftLsr from rfl, shiftLsr_eq]
      exact hsre rfl
  obtain ⟨rfl, rfl, rfl⟩ := hresult
  exact hread m s2 hm

/-- The bit that a right shift moves out, as a number (R190). -/
theorem toNat_getLsbD_zero (m : Byte) : (m.getLsbD 0).toNat = m.toNat % 2 := by
  rw [BitVec.getLsbD, Nat.toNat_testBit, Nat.pow_zero, Nat.div_one]

/-- Settles O51: RRA's body writes the rotated byte, and its effect is AddCore on A with C the bit rotated out. -/
theorem rraRotatesAndAdds : Obligations.RraRotatesAndAdds := by
  intro nn a s f hmem
  obtain ⟨hop, ea, crossed, s1, haddr, hread, hfault⟩ := exec_rmwForm (m := .RRA) (s := s) (shiftResult shiftRor)
    rraEffect (Form.lists_of_mem rfl hmem) (fun _ => rfl) (fun _ _ => rfl) fun _ _ _ => rfl
  refine ⟨hop, ea, crossed, s1, haddr, fun m s2 r d w hm hr hd hw => ?_, hfault⟩
  obtain ⟨hrotated, hcarry⟩ := Prod.mk.inj (shiftRor_eq m s.flags.c)
  obtain rfl : r = shiftResult shiftRor m s := hr.trans hrotated.symm
  rw [← toNat_getLsbD_zero, ← hcarry] at hd
  subst hd
  have hsigns : ∀ x y z : Bool, ((x == y) && (x != z)) = ((x != z) && (y != z)) := by decide
  obtain rfl : w = (addCore s.a (shiftResult shiftRor m s)
    { s.flags with c := (shiftRor m s.flags.c).2 }).1 := hw
  rw [hsigns, ← addCore_v_eq_msb]
  exact hread m s2 hm

end Sys2Proof.Machine
end
